-- ==== Sys2Proof/Word.lean ====
section
/-! DEFINITION. The word types of the block: 32-bit bus words, bytes, and 128-bit blocks in the integer view of
spec/00_scope.md R8 (byte 0 of a block is its most significant byte). -/

namespace Sys2Proof

/-- A 32-bit bus word or command word (20_memory.md R78, 30_encoding.md R100). -/
abbrev Word := BitVec 32

/-- One byte of a data stream. -/
abbrev Byte := BitVec 8

/-- A block of 16 bytes in the integer view (00_scope.md R8). -/
abbrev Block := BitVec 128

end Sys2Proof
end

