-- ==== Sys2Proof/Syntax.lean ====
section
/-! DEFINITION. The twelve commands of spec/30_encoding.md R104, one constructor per row of spec/opcode_table.json.
A command is a word written to CMD and plays the part an instruction plays in an ISA (00_scope.md R12). The block
operand is not part of it: it is the register OPND (R103). -/

namespace Sys2Proof

/-- A command. `len` is the field LEN (30_encoding.md R102), a number that `WellFormed` bounds by 31. -/
inductive Instr where
  /-- No operation (42_session.md R211). -/
  | nop
  /-- H = E(0^128) and table build (40_gf128_table.md R144). -/
  | genh
  /-- Table build from the subkey in OPND (R145). -/
  | loadh
  /-- OPND times H into DOUT; exists only with DEBUG_MULH = 1 (R146). -/
  | mulh
  /-- One full block of a long IV (41_ghash.md R180). -/
  | ivblk
  /-- The last, or only, IV chunk of `len` bytes; opens a session (42_session.md R201). -/
  | start (len : Nat)
  /-- One chunk of associated data (R203). -/
  | aad (len : Nat)
  /-- Encrypt one chunk (R205). -/
  | enc (len : Nat)
  /-- Decrypt one chunk (R206). -/
  | dec (len : Nat)
  /-- Fold one ciphertext chunk without keystream (R207). -/
  | ghashc (len : Nat)
  /-- End the session and produce a tag of `len` bytes (43_tag.md R251). -/
  | finish (len : Nat)
  /-- End the session and verify a tag of `len` bytes (R252). -/
  | check (len : Nat)
  deriving DecidableEq, Repr

/-- The four operand classes of 30_encoding.md R102. -/
inductive OperandClass where
  | n
  | s
  | l
  | t
  deriving DecidableEq, Repr

/-- The class of each command (30_encoding.md R104). -/
def Instr.operandClass : Instr → OperandClass
  | .nop | .genh | .loadh | .mulh | .ivblk => .n
  | .start _ => .s
  | .aad _ | .enc _ | .dec _ | .ghashc _ => .l
  | .finish _ | .check _ => .t

/-- The value of the field LEN of a command; class N commands have LEN = 0 (30_encoding.md R102). -/
def Instr.len : Instr → Nat
  | .nop | .genh | .loadh | .mulh | .ivblk => 0
  | .start n | .aad n | .enc n | .dec n | .ghashc n | .finish n | .check n => n

end Sys2Proof
end

