-- ==== Sys2Proof/WellFormed.lean ====
section
/-! DEFINITION. Which commands exist and can be assembled into a word: LEN fits its 5 bits (spec/30_encoding.md R109:
an assembler refuses n > 31), and MULH exists only with DEBUG_MULH = 1 (40_gf128_table.md R146). A LEN that is well
formed here may still be outside its class's legal values: that is the error PARAM at completion, not an encoding
matter (30_encoding.md R102). -/

namespace Sys2Proof

/-- LEN fits in bits 12:8 of the word (30_encoding.md R101, R109). -/
def Instr.lenFits (i : Instr) : Bool := decide (i.len ≤ 31)

/-- The command exists under this value of `DEBUG_MULH` (40_gf128_table.md R146). -/
def Instr.present (debugMulh : Bool) : Instr → Bool
  | .mulh => debugMulh
  | .nop | .genh | .loadh | .ivblk => true
  | .start _ | .aad _ | .enc _ | .dec _ | .ghashc _ | .finish _ | .check _ => true

/-- The two checks together. -/
def Instr.wellFormed (debugMulh : Bool) (i : Instr) : Bool :=
  i.lenFits && i.present debugMulh

end Sys2Proof
end

