-- ==== Sys2Proof/Decode.lean ====
section
/-! DEFINITION. Decoding and encoding of command words (spec/30_encoding.md R100 to R109). The decoder is total on
all 32-bit words and names why it refuses one; a refused word is `Illegal` (R106) and completes with ERR = ILLEGAL. -/

namespace Sys2Proof

/-- Why a word is illegal (30_encoding.md R107). -/
inductive Illegal where
  /-- A bit of RSV0 or RSV1 is set. -/
  | reservedBits
  /-- OP is 0xC to 0xF. -/
  | reservedOpcode
  /-- A class N command with LEN ≠ 0. -/
  | lengthOnClassN
  /-- MULH while `DEBUG_MULH` = 0. -/
  | mulhAbsent
  deriving DecidableEq, Repr

/-- OP, bits 3:0 (30_encoding.md R101). -/
def fieldOp (w : Word) : Nat := (w.extractLsb' 0 4).toNat

/-- RSV0, bits 7:4. -/
def fieldRsv0 (w : Word) : Nat := (w.extractLsb' 4 4).toNat

/-- LEN, bits 12:8, unsigned (30_encoding.md R102). -/
def fieldLen (w : Word) : Nat := (w.extractLsb' 8 5).toNat

/-- RSV1, bits 31:13. -/
def fieldRsv1 (w : Word) : Nat := (w.extractLsb' 13 19).toNat

/-- A class N command decodes only with LEN = 0 (30_encoding.md R102, R106). -/
def decodeClassN (len : Nat) (i : Instr) : Except Illegal Instr :=
  if len = 0 then .ok i else .error .lengthOnClassN

/-- The opcode map of 30_encoding.md R104, with the class N and MULH checks of R106. -/
def decodeOp (debugMulh : Bool) (op len : Nat) : Except Illegal Instr :=
  match op with
  | 0x0 => decodeClassN len .nop
  | 0x1 => decodeClassN len .genh
  | 0x2 => decodeClassN len .loadh
  | 0x3 => if debugMulh then decodeClassN len .mulh else .error .mulhAbsent
  | 0x4 => decodeClassN len .ivblk
  | 0x5 => .ok (.start len)
  | 0x6 => .ok (.aad len)
  | 0x7 => .ok (.enc len)
  | 0x8 => .ok (.dec len)
  | 0x9 => .ok (.ghashc len)
  | 0xA => .ok (.finish len)
  | 0xB => .ok (.check len)
  | _ => .error .reservedOpcode

/-- `decode(w)` of 30_encoding.md R106, a total function of the word and `DEBUG_MULH`. -/
def decode (debugMulh : Bool) (w : Word) : Except Illegal Instr :=
  if fieldRsv1 w ≠ 0 ∨ fieldRsv0 w ≠ 0 then .error .reservedBits
  else decodeOp debugMulh (fieldOp w) (fieldLen w)

/-- The instruction this decoder reads from a word of the opcode table, which lists MULH as existing (log 15). -/
def decodeTableWord (nbits w : Nat) : Option Instr :=
  if nbits ≤ 32 then
    match decode true (BitVec.ofNat 32 (w % 2 ^ nbits)) with
    | .ok i => some i
    | .error _ => none
  else none

/-- The opcode number of each command (30_encoding.md R104). -/
def Instr.opcode : Instr → Nat
  | .nop => 0x0
  | .genh => 0x1
  | .loadh => 0x2
  | .mulh => 0x3
  | .ivblk => 0x4
  | .start _ => 0x5
  | .aad _ => 0x6
  | .enc _ => 0x7
  | .dec _ => 0x8
  | .ghashc _ => 0x9
  | .finish _ => 0xA
  | .check _ => 0xB

/-- `word = (LEN << 8) | OP` (30_encoding.md R101, R109). -/
def encode (i : Instr) : Word :=
  (BitVec.ofNat 32 i.len <<< 8) ||| BitVec.ofNat 32 i.opcode

/-- The mask of a command's row (30_encoding.md R105): all bits for class N, all but LEN for the others. -/
def Instr.rowMask (i : Instr) : Word :=
  match i.operandClass with
  | .n => 0xFFFFFFFF
  | .s | .l | .t => 0xFFFFE0FF

/-- The match value of a command's row (30_encoding.md R105). -/
def Instr.rowMatch (i : Instr) : Word := BitVec.ofNat 32 i.opcode

end Sys2Proof
end

