-- ==== Sys2Proof/Config.lean ====
section
/-! DEFINITION. What is fixed for one machine and left open by the spec (00_scope.md R7, 93_implementation_defined.md
I20 to I23): uninterpreted constants with no body, so that a claim holds whatever they are. `DEBUG_MULH` is carried
in State instead (log 3), so that both its values are modelled. -/

namespace Sys2Proof

/-- How a command ends, as far as its latency may tell (70_reset_and_hazards.md R354): refused by decoding, refused
by a state, parameter or limit check, or performed. -/
inductive ResultClass where
  | decodeRefusal
  | checkRefusal
  | performed
  deriving DecidableEq, Repr

/-- `E` of 10_state.md R31: `Config.cipher k` is the cipher function under the `k`-th binding of a key to the cipher
port (44_facade.md R283; log 4). -/
opaque Config.cipher : Nat → Block → Block

/-- FREE VALUE. What the cipher port answers while a key change has not been followed by GENH or a matching LOADH
(93_implementation_defined.md I9 `any value`, 70_reset_and_hazards.md R351; log 5): one value for each value of the
counter of free values and request. -/
opaque Config.staleAnswer : Nat → Block → Block

/-- FREE VALUE. What a fold gives in the same interval, when the table is not one of the bound key (44_facade.md R283;
log 5): one value for each value of the counter of free values and folded block. -/
opaque Config.staleFold : Nat → Block → Block

/-- Free part of `Config.latency`. -/
opaque Config.extraLatency : Nat → Nat → ResultClass → Nat

/-- `LAT(op, LEN, outcome)` ≥ 1 of 70_reset_and_hazards.md R353: a function of the opcode, LEN and the result class,
and of nothing else (R354). No step of the machine reads it (log 7). -/
def Config.latency (op len : Nat) (c : ResultClass) : Nat :=
  Config.extraLatency op len c + 1

/-- Free part of `Config.gcmBase`. -/
opaque Config.gcmBasePage : Nat

/-- `GCM_BASE`, the platform's base address of the window, a multiple of 256 (20_memory.md R71; log 14). -/
def Config.gcmBase : Nat := 256 * Config.gcmBasePage

/-- `LEN_LIMIT` = 2^61 − 1 bytes (41_ghash.md R175). -/
def Config.lenLimit : Nat := 2305843009213693951

/-- `BLK_LIMIT` = 2^32 − 2 data blocks (42_session.md R210). -/
def Config.blkLimit : Nat := 4294967294

end Sys2Proof
end

