-- ==== Sys2Proof/Machine/State.lean ====
section
/-! DEFINITION. The state of the block (spec/10_state.md R30 to R59), the outside world's pending events and replies
(70_reset_and_hazards.md R340), and the reset state (R341). The block has no memory (20_memory.md R70; log 8). -/

namespace Sys2Proof.Machine

open Sys2Proof

/-- The session state code STATE (10_state.md R35). -/
inductive SessState where
  | idle
  | ivload
  | started
  | finished
  | fault
  deriving DecidableEq, Repr

/-- The data mode of the session (10_state.md R44). -/
inductive DMode where
  | none
  | enc
  | dec
  | hash
  deriving DecidableEq, Repr

/-- The result codes of STATUS.ERR (60_exceptions.md R300). -/
inductive ErrCode where
  | ok
  | param
  | state
  | limit
  | illegal
  | authfail
  deriving DecidableEq, Repr

/-- The 16-entry table M[0..15] (10_state.md R33). -/
abbrev Table := Vector Block 16

/-- How the key bound to the cipher port stands to the table commands (70_reset_and_hazards.md R351; log 5, log 6). -/
inductive KeyPort where
  /-- No key change is open: none since reset, or each has been followed by GENH or by LOADH with the matching H. -/
  | settled
  /-- The key changed, and no GENH and no LOADH with the matching H has followed. -/
  | rebound
  /-- The key changed while a command was in flight, which has not completed yet. -/
  | torn
  deriving DecidableEq, Repr

/-- The width of a bus access (20_memory.md R78). -/
inductive Width where
  | w8
  | w16
  | w32
  | w64
  deriving DecidableEq, Repr

/-- The events of 70_reset_and_hazards.md R340, and the binding of a key outside the block (44_facade.md R283). `off`
is the offset in the 256-byte window (20_memory.md R71). -/
inductive HostEvent where
  /-- `BusRead(off)`, of some width. -/
  | read (width : Width) (off : BitVec 8)
  /-- `BusWrite(off, v)`, of some width; only a 32-bit access has an effect (20_memory.md R78). -/
  | write (width : Width) (off : BitVec 8) (v : Word)
  /-- The block's turn: the event `Complete` where it is enabled, nothing otherwise. -/
  | blockTurn
  /-- The event `Reset`. -/
  | reset
  /-- A new key is bound to the cipher port, outside the block. -/
  | bindKey
  deriving DecidableEq, Repr

/-- What the host gets back for one access: the value read (0 for a write) and the bus error response
(20_memory.md R74, R78; 60_exceptions.md R314). -/
structure BusReply where
  value : Word
  error : Bool
  deriving DecidableEq, Repr

/-- The whole machine. The first part is the block's registers, the last seven fields are the model's own
(INVENTORY.md, State). -/
structure State where
  /-- H, the hash subkey (10_state.md R32). -/
  h : Block
  /-- M[0..15] (R33). -/
  m : Table
  /-- TV, table valid (R34). -/
  tv : Bool
  /-- STATE (R35). -/
  sess : SessState
  /-- CIV, the current counter block (R36). -/
  civ : Block
  /-- GCTR0 = E(J0) (R37). -/
  gctr0 : Block
  /-- ACC, the GHASH accumulator (R38). -/
  acc : Block
  /-- LENA, AAD bytes folded (R39). -/
  lenA : BitVec 64
  /-- LENC, ciphertext bytes folded (R40). -/
  lenC : BitVec 64
  /-- IVLEN, IV bytes folded by IVBLK (R41). -/
  ivLen : BitVec 64
  /-- BLKCNT, data commands of length 1 to 16 (R42). -/
  blkCnt : BitVec 32
  /-- APHC, AAD phase closed (R43). -/
  aphc : Bool
  /-- DMODE (R44). -/
  dmode : DMode
  /-- DCLOSED, data closed (R45). -/
  dclosed : Bool
  /-- DIN (R46). -/
  din : Block
  /-- DOUT (R47). -/
  dout : Block
  /-- OPND, DIN at acceptance (R48). -/
  opnd : Block
  /-- BUSY (R49). -/
  busy : Bool
  /-- PEND, the accepted command word (R49). -/
  pend : Word
  /-- ERR (R50). -/
  err : ErrCode
  /-- AUTH_OK (R51). -/
  authOk : Bool
  /-- OVR, sticky overrun (R52). -/
  ovr : Bool
  /-- The parameter DEBUG_MULH (00_scope.md R7), changed by no step (log 3). -/
  debugMulh : Bool
  /-- Which key binding the cipher port has (log 5). -/
  keyEpoch : Nat
  /-- Whether that binding has been followed by GENH or a matching LOADH (log 5, log 6). -/
  keyPort : KeyPort
  /-- The counter of free values, advanced by each completion inside a key change (log 5). -/
  freeCtr : Nat
  /-- The requests made on the cipher port, newest first (20_memory.md R90; log 10). -/
  cipherLog : List Block
  /-- What the outside world still does, first event first (log 1). -/
  host : List HostEvent
  /-- What the host has been answered, newest first (log 9). -/
  replies : List BusReply
  deriving DecidableEq, Repr

/-- Why a step stops with a fault. There is no way: every word, command and access of this block has an effect the
spec gives (60_exceptions.md R302, R311, R314; 30_encoding.md R106), so no definition raises a fault and this type has
no constructor (log 11; safe and unsafe do not arise). -/
inductive Fault where
  deriving DecidableEq, Repr

/-- Why a step is refused. -/
inductive Refusal where
  /-- A command with no meaning yet, by its mnemonic in spec/opcode_table.json. Raised by a refused arm of `exec`
  only; there is none (safe). -/
  | notModelled (mnemonic : String)
  deriving DecidableEq, Repr

/-- The machine right after Reset (10_state.md R59, 70_reset_and_hazards.md R341). The spec gives every register
of the block the value 0; the model's own fields have the values of log 3 and log 12. -/
def State.reset : State where
  h := 0
  m := Vector.replicate 16 0
  tv := false
  sess := .idle
  civ := 0
  gctr0 := 0
  acc := 0
  lenA := 0
  lenC := 0
  ivLen := 0
  blkCnt := 0
  aphc := false
  dmode := .none
  dclosed := false
  din := 0
  dout := 0
  opnd := 0
  busy := false
  pend := 0
  err := .ok
  authOk := false
  ovr := false
  debugMulh := true
  keyEpoch := 0
  keyPort := .settled
  freeCtr := 0
  cipherLog := []
  host := []
  replies := []

end Sys2Proof.Machine
end

