-- ==== Sys2Proof/Machine/Field.lean ====
section
/-! DEFINITION. GF(2^128) in the integer view of a block (spec/40_gf128_table.md R130 to R142): doubling, the 16-entry
table, the 4-bit multiply, and the bit-serial reference product. -/

namespace Sys2Proof.Machine

open Sys2Proof

/-- The reduction constant R = 0xE1 || 0^120 (40_gf128_table.md R131). -/
def reductionR : Block := 0xE1000000000000000000000000000000

/-- Multiplication by x (R133): one place towards byte 15, the x^127 coefficient folded back through R. -/
def mulx (v : Block) : Block :=
  (v >>> 1) ^^^ (if v.getLsbD 0 then reductionR else 0)

/-- Entry `i` of a table (10_state.md R33). -/
def tableAt (m : Table) (i : BitVec 4) : Block :=
  m[i.toNat]

/-- One turn of the loop of `genTable` (40_gf128_table.md R134): M[2i] and M[2i + 1] from M[i]. -/
def genTableStep (h : Block) (m : Table) (i : BitVec 4) : Table :=
  let d := mulx (tableAt m i)
  (m.setIfInBounds (2 * i.toNat) d).setIfInBounds (2 * i.toNat + 1) (d ^^^ h)

/-- `genTable(H)` (R134): M[0] = 0, M[1] = H, then the loop for i = 1 to 7. -/
def genTable (h : Block) : Table :=
  [1, 2, 3, 4, 5, 6, 7].foldl (genTableStep h) ((Vector.replicate 16 0).setIfInBounds 1 h)

/-- `rev4` (R136): the four bits in reverse order. -/
def rev4 (v : BitVec 4) : BitVec 4 :=
  v.extractLsb' 0 1 ++ v.extractLsb' 1 1 ++ v.extractLsb' 2 1 ++ v.extractLsb' 3 1

/-- `nib(X, n)` for n ≤ 31 (R137): the n-th nibble from the most significant end, reversed. -/
def nib (x : Block) (n : Nat) : BitVec 4 :=
  rev4 (x.extractLsb' (124 - 4 * n) 4)

/-- `RED4[c]` (R138), the carry folding table. -/
def red4 (c : BitVec 4) : BitVec 16 :=
  match c.toNat with
  | 1 => 0xE100
  | 2 => 0x7080
  | 3 => 0x9180
  | 4 => 0x3840
  | 5 => 0xD940
  | 6 => 0x48C0
  | 7 => 0xA9C0
  | 8 => 0x1C20
  | 9 => 0xFD20
  | 10 => 0x6CA0
  | 11 => 0x8DA0
  | 12 => 0x2460
  | 13 => 0xC560
  | 14 => 0x54E0
  | 15 => 0xB5E0
  | _ => 0x0000

/-- `mulx4(Z)` (R139): multiplication by x^4. -/
def mulx4 (z : Block) : Block :=
  (z >>> 4) ^^^ ((red4 (rev4 (z.extractLsb' 0 4))).zeroExtend 128 <<< 112)

/-- The steps n = k − 1 down to 0 of the loop of `mulH` (R140). -/
def mulHLoop (m : Table) (x : Block) : Nat → Block → Block
  | 0, z => z
  | n + 1, z => mulHLoop m x n (mulx4 z ^^^ tableAt m (nib x n))

/-- `mulH(X)` with the table `m` (R140): 32 steps, from the highest-degree nibble down. -/
def mulH (m : Table) (x : Block) : Block :=
  mulHLoop m x 32 0

/-- The steps i = 128 − k to 127 of the loop of `gfmul` (R132). -/
def gfmulLoop (x : Block) : Nat → Block → Block → Block
  | 0, z, _ => z
  | k + 1, z, v => gfmulLoop x k (if x.getLsbD k then z ^^^ v else z) (mulx v)

/-- `gfmul(X, Y)` (R132), the bit-serial form of X • Y. -/
def gfmul (x y : Block) : Block :=
  gfmulLoop x 128 0 y

/-- `blk(1)`, the field's one: the block whose byte 0 is 0x80 (R130). -/
def blkOne : Block := 0x80000000000000000000000000000000

end Sys2Proof.Machine
end

