-- ==== Sys2Proof/Machine/Operands.lean ====
section
/-! DEFINITION. Operand forms: bytes and words of a block (spec/20_memory.md R73), chunks and their padding
(41_ghash.md R171, 43_tag.md R255), the length block (R172), the counter increment (R174), the initial counter
block (R177), and byte strings as blocks. -/

namespace Sys2Proof.Machine

open Sys2Proof

/-- Byte `j` of a block, 0 ≤ j ≤ 15; byte 0 is the most significant (00_scope.md R8). -/
def byteAt (b : Block) (j : Nat) : Byte :=
  b.extractLsb' (120 - 8 * j) 8

/-- Word `k` of a block, 0 ≤ k ≤ 3: bytes 4k to 4k + 3, the first the most significant (20_memory.md R73). -/
def wordAt (b : Block) (k : Nat) : Word :=
  b.extractLsb' (96 - 32 * k) 32

/-- A block with word `k` replaced (20_memory.md R73, R75). -/
def setWordAt (b : Block) (k : Nat) (v : Word) : Block :=
  (b &&& ~~~((0xFFFFFFFF : Block) <<< (96 - 32 * k))) ||| (v.zeroExtend 128 <<< (96 - 32 * k))

/-- The first `n` bytes of a block followed by zero bytes. It is `pad(b, n)` of 41_ghash.md R171 and also
`MSB_n(B) || 0^(8·(16−n))` of 42_session.md R205 and 43_tag.md R251. -/
def pad (b : Block) (n : Nat) : Block :=
  (b >>> (8 * (16 - n))) <<< (8 * (16 - n))

/-- `LB(a, c)`, the length block of byte counts (41_ghash.md R172): each bit length is a 64-bit big-endian field,
taken mod 2^64, the AAD count first. -/
def lengthBlock (a c : Nat) : Block :=
  BitVec.ofNat 64 (8 * a) ++ BitVec.ofNat 64 (8 * c)

/-- `inc32(V)` (41_ghash.md R174): the low 32 bits plus one, wrapping, the upper 96 bits kept. -/
def inc32 (v : Block) : Block :=
  v.extractLsb' 32 96 ++ (v.extractLsb' 0 32 + 1)

/-- The fast path for a 12-byte IV (41_ghash.md R177): `J0 = IV || 0x00000001`. -/
def fastJ0 (iv : Block) : Block :=
  iv.extractLsb' 32 96 ++ (1 : BitVec 32)

/-- One byte comparison of `CHECK` (43_tag.md R252): the difference so far OR the difference of byte `j`. -/
def diffStep (a b : Block) (d : Byte) (j : Nat) : Byte :=
  d ||| (byteAt a j ^^^ byteAt b j)

/-- The whole comparison of 43_tag.md R252 and R253: all bytes 0 to t − 1, in order, with no early exit. -/
def tagDiff (t : Nat) (a b : Block) : Byte :=
  (List.range t).foldl (diffStep a b) 0

/-- The first `n` bytes of a block as a byte string (00_scope.md R10, `MSB_n`). -/
def bytesOf (n : Nat) (b : Block) : List Byte :=
  (List.range n).map (byteAt b)

/-- `pad16`: a byte string of at most 16 bytes as a block, zero bytes after it (44_facade.md R280). -/
def blockOf (bs : List Byte) : Block :=
  (List.range 16).foldl (fun b j => (b <<< 8) ||| (bs.getD j 0).zeroExtend 128) 0

/-- `chunks` with a bound on the number of pieces. -/
def chunksUpTo : Nat → List Byte → List (List Byte)
  | 0, _ => []
  | k + 1, bs => if bs.isEmpty then [] else bs.take 16 :: chunksUpTo k (bs.drop 16)

/-- `chunks(X)` of 44_facade.md R280: pieces of 16 bytes, the last one of 1 to 16 bytes, none for an empty string. -/
def chunks (bs : List Byte) : List (List Byte) :=
  chunksUpTo bs.length bs

end Sys2Proof.Machine
end

