-- ==== Sys2Proof/Machine/Flags.lean ====
section
/-! DEFINITION. The codes of STATE, DMODE and ERR, the STATUS word (spec/10_state.md R35, R44, R50, R54), and the
verdict of a command's checks in the order of priority of 60_exceptions.md R303. -/

namespace Sys2Proof.Machine

open Sys2Proof

/-- The session state code (10_state.md R35). -/
def SessState.code : SessState → BitVec 3
  | .idle => 0
  | .ivload => 1
  | .started => 2
  | .finished => 3
  | .fault => 4

/-- The data mode code (10_state.md R44); no bus access reads it. -/
def DMode.code : DMode → BitVec 2
  | .none => 0
  | .enc => 1
  | .dec => 2
  | .hash => 3

/-- The result code (10_state.md R50, 60_exceptions.md R300). -/
def ErrCode.code : ErrCode → BitVec 3
  | .ok => 0
  | .param => 1
  | .state => 2
  | .limit => 3
  | .illegal => 4
  | .authfail => 5

/-- The STATUS register as read (10_state.md R54): from bit 31 down, reserved, MULHEN, OVR, AUTH_OK, ERR, TV, STATE,
BUSY. -/
def statusWord (s : State) : Word :=
  (0 : BitVec 21) ++ BitVec.ofBool s.debugMulh ++ BitVec.ofBool s.ovr ++ BitVec.ofBool s.authOk ++ s.err.code
    ++ BitVec.ofBool s.tv ++ s.sess.code ++ BitVec.ofBool s.busy

/-- The outcome of a command's checks (60_exceptions.md R303). -/
inductive Verdict where
  /-- A check fails with ILLEGAL, STATE or PARAM: only ERR changes (60_exceptions.md R302). -/
  | refuse (e : ErrCode)
  /-- A counter would pass its limit: LIMIT, and STATE becomes FAULT (R307). -/
  | limit
  /-- A chunk of length 0 in an allowed state: only ERR = OK (42_session.md R204 (c)). -/
  | noop
  /-- All checks pass: the command's effect. -/
  | perform
  deriving DecidableEq, Repr

/-- The result class of a checked command (70_reset_and_hazards.md R354). -/
def Verdict.resultClass : Verdict → ResultClass
  | .refuse .illegal => .decodeRefusal
  | .refuse _ => .checkRefusal
  | .limit => .checkRefusal
  | .noop => .performed
  | .perform => .performed

end Sys2Proof.Machine
end

