-- ==== Sys2Proof/Machine/Ops.lean ====
section
/-! DEFINITION. The operations the commands share: the failure rule (spec/60_exceptions.md R302), the fold
(41_ghash.md R170), `clearSession` (40_gf128_table.md R143), the cipher port (20_memory.md R90), acceptance, overrun
and the end of a completion (70_reset_and_hazards.md R345, R346, R348), the bus (20_memory.md R72 to R78) and Reset
(R341). The block takes no exception (60_exceptions.md R311): its whole reaction to an error is `carryOut`. -/

namespace Sys2Proof.Machine

open Sys2Proof

/-! ### Results of a command -/

/-- `ERR <- e`. -/
def setErr (e : ErrCode) (s : State) : State := { s with err := e }

/-- A LIMIT failure: `STATE <- FAULT`, `ERR <- LIMIT`, nothing else (60_exceptions.md R302, R307). -/
def limitFail (s : State) : State := { s with sess := .fault, err := .limit }

/-- The general law of 60_exceptions.md R302 and R303: what a command changes, given the verdict of its checks and its
effect. -/
def carryOut (v : Verdict) (effect : State → State) (s : State) : Host.Outcome State Fault Refusal :=
  match v with
  | .refuse e => .next (setErr e s)
  | .limit => .next (limitFail s)
  | .noop => .next (setErr .ok s)
  | .perform => .next (effect s)

/-! ### Session registers -/

/-- `clearSession()` (40_gf128_table.md R143). -/
def clearSession (s : State) : State :=
  { s with
    civ := 0, gctr0 := 0, acc := 0, lenA := 0, lenC := 0, ivLen := 0, blkCnt := 0
    aphc := false, dmode := .none, dclosed := false }

/-- One fold of a block into an accumulator value (41_ghash.md R170). -/
def fold (m : Table) (acc b : Block) : Block := mulH m (acc ^^^ b)

/-- The fold a session command makes: that of R170, or a free value while a key change has not been followed by GENH or
a matching LOADH (44_facade.md R283, 70_reset_and_hazards.md R351, 93_implementation_defined.md I9; log 5). -/
def foldNow (s : State) (acc b : Block) : Block :=
  match s.keyPort with
  | .settled => fold s.m acc b
  | .rebound => Config.staleFold s.freeCtr (acc ^^^ b)
  | .torn => Config.staleFold s.freeCtr (acc ^^^ b)

/-! ### The cipher port -/

/-- The response to a request (10_state.md R31): E of the request under the bound key, or a free value while a key
change has not been followed by GENH or a matching LOADH (70_reset_and_hazards.md R351, 93_implementation_defined.md I9; log 5). -/
def cipherAnswer (s : State) (b : Block) : Block :=
  match s.keyPort with
  | .settled => Config.cipher s.keyEpoch b
  | .rebound => Config.staleAnswer s.freeCtr b
  | .torn => Config.staleAnswer s.freeCtr b

/-- One request on the cipher port (20_memory.md R90), recorded (log 10). -/
def cipherRequest (b : Block) (s : State) : State := { s with cipherLog := b :: s.cipherLog }

/-- The subkey LOADH gives is that of the bound key, `H = E(0^128)`: `LOADH with the matching H` of
70_reset_and_hazards.md R351. The block does not test it and makes no request (40_gf128_table.md R145; log 5). -/
def subkeyMatches (s : State) : Bool := decide (s.opnd = Config.cipher s.keyEpoch 0)

/-- The port after a table command whose subkey is that of the bound key (`matching`) or not: only a matching one ends a
key change that came before it (70_reset_and_hazards.md R351); a key change during it stays open (log 6). -/
def KeyPort.afterTable (matching : Bool) : KeyPort → KeyPort
  | .settled => .settled
  | .rebound => if matching then .settled else .rebound
  | .torn => .torn

/-- What a table command does to an open key change. -/
def settleKey (matching : Bool) (s : State) : State :=
  { s with keyPort := s.keyPort.afterTable matching }

/-- The port once no command is in flight: a key change during the last one now counts as before the next (log 6). -/
def KeyPort.afterFlight : KeyPort → KeyPort
  | .settled => .settled
  | .rebound => .rebound
  | .torn => .rebound

/-- A key is bound to the cipher port (44_facade.md R283), outside the block: no register of the block changes. -/
def bindKey (s : State) : State :=
  { s with keyEpoch := s.keyEpoch + 1, keyPort := if s.busy then .torn else .rebound }

/-! ### Acceptance and completion -/

/-- Acceptance (70_reset_and_hazards.md R345). -/
def accept (w : Word) (s : State) : State :=
  { s with pend := w, opnd := s.din, authOk := false, busy := true }

/-- A write to CMD (20_memory.md R75): acceptance, or the overrun of 70_reset_and_hazards.md R348. -/
def writeCmd (w : Word) (s : State) : State :=
  if s.busy then { s with ovr := true } else accept w s

/-- The counter of free values for the next command: a command inside a key change may have used the present one
(log 5). -/
def nextFree (s : State) : Nat :=
  if s.keyPort = .settled then s.freeCtr else s.freeCtr + 1

/-- The end of a completion: `BUSY <- 0` (70_reset_and_hazards.md R346), and the model's own bookkeeping of a key change
(log 5, log 6). -/
def retire (s : State) : State :=
  { s with busy := false, keyPort := s.keyPort.afterFlight, freeCtr := nextFree s }

/-- The completion of an illegal word (30_encoding.md R106, R107; 60_exceptions.md R304). -/
def completeIllegal (s : State) : State := retire (setErr .illegal s)

/-- `retire` on what a command answered. -/
def retireOutcome (o : Host.Outcome State Fault Refusal) : Host.Outcome State Fault Refusal :=
  match o with
  | .next t => .next (retire t)
  | .fault f => .fault f
  | .refused r => .refused r

/-- The Reset event (70_reset_and_hazards.md R341, R342): every register of the block takes its reset value. The
parameters, the key bound outside, and the outside world are not changed by it (log 12). -/
def resetBlock (s : State) : State :=
  { State.reset with
    debugMulh := s.debugMulh
    keyEpoch := s.keyEpoch
    keyPort := s.keyPort.afterFlight
    freeCtr := s.freeCtr
    cipherLog := s.cipherLog
    host := s.host
    replies := s.replies }

/-! ### The register window -/

/-- `BusRead(off)` of an aligned 32-bit access (20_memory.md R72, R74; 10_state.md R53 to R56). CMD and every reserved
offset read 0. -/
def busRead (off : BitVec 8) (s : State) : Word :=
  match off.toNat with
  | 0x04 => statusWord s
  | 0x10 => wordAt s.din 0
  | 0x14 => wordAt s.din 1
  | 0x18 => wordAt s.din 2
  | 0x1C => wordAt s.din 3
  | 0x20 => wordAt s.dout 0
  | 0x24 => wordAt s.dout 1
  | 0x28 => wordAt s.dout 2
  | 0x2C => wordAt s.dout 3
  | 0x30 => s.lenA.extractLsb' 0 32
  | 0x34 => s.lenA.extractLsb' 32 32
  | 0x38 => s.lenC.extractLsb' 0 32
  | 0x3C => s.lenC.extractLsb' 32 32
  | 0x40 => s.blkCnt
  | _ => 0

/-- A write to STATUS: bit 9 clears OVR, nothing else (10_state.md R54, 20_memory.md R75). -/
def writeStatus (v : Word) (s : State) : State :=
  { s with ovr := s.ovr && !v.getLsbD 9 }

/-- `BusWrite(off, v)` of an aligned 32-bit access (20_memory.md R75). Every other offset ignores the write. -/
def busWrite (off : BitVec 8) (v : Word) (s : State) : State :=
  match off.toNat with
  | 0x00 => writeCmd v s
  | 0x04 => writeStatus v s
  | 0x10 => { s with din := setWordAt s.din 0 v }
  | 0x14 => { s with din := setWordAt s.din 1 v }
  | 0x18 => { s with din := setWordAt s.din 2 v }
  | 0x1C => { s with din := setWordAt s.din 3 v }
  | _ => s

/-- The accesses that exist: 32 bits wide and 4-byte aligned (20_memory.md R78). -/
def accessLegal (w : Width) (off : BitVec 8) : Bool :=
  w == .w32 && off.toNat % 4 == 0

/-- Record what the host is answered (log 9). -/
def reply (r : BusReply) (s : State) : State := { s with replies := r :: s.replies }

/-- A read access of any width at any offset (20_memory.md R74, R78; 60_exceptions.md R314). -/
def hostRead (w : Width) (off : BitVec 8) (s : State) : State :=
  if accessLegal w off then reply ⟨busRead off s, false⟩ s else reply ⟨0, true⟩ s

/-- A write access of any width at any offset (20_memory.md R75, R78; 60_exceptions.md R314). -/
def hostWrite (w : Width) (off : BitVec 8) (v : Word) (s : State) : State :=
  if accessLegal w off then reply ⟨0, false⟩ (busWrite off v s) else reply ⟨0, true⟩ s

/-- The offset in the window of a platform byte address, if it lies in the window (20_memory.md R71); the block does not
see other addresses. -/
def windowOffset (addr : Nat) : Option (BitVec 8) :=
  if Config.gcmBase ≤ addr ∧ addr < Config.gcmBase + 256 then some (BitVec.ofNat 8 (addr - Config.gcmBase)) else none

/-! ### The very next step -/

/-- The state in which the word `w` has just been accepted and its completion is the next event: what `withFetchWord`
needs (log 2). -/
def acceptNext (w : Word) (s : State) : State :=
  { accept w s with host := .blockTurn :: s.host }

end Sys2Proof.Machine
end

