-- ==== Sys2Proof/Machine/Ghash.lean ====
section
/-! DEFINITION. IVBLK (spec/41_ghash.md R180). -/

namespace Sys2Proof.Machine

open Sys2Proof

/-- The IV bytes folded so far, 0 outside IVLOAD (41_ghash.md R180, `base`). -/
def ivBase (s : State) : Nat :=
  if s.sess = .ivload then s.ivLen.toNat else 0

/-- The checks of IVBLK (R180): STATE with TV = 0, LIMIT when IVLEN would pass LEN_LIMIT. -/
def verdictIvblk (s : State) : Verdict :=
  if !s.tv then .refuse .state
  else if ivBase s + 16 > Config.lenLimit then .limit
  else .perform

/-- `if STATE != IVLOAD: clearSession()` (R180): a new IV abandons any session. -/
def beginIv (s : State) : State :=
  if s.sess = .ivload then s else clearSession s

/-- The fold of IVBLK on the state `beginIv` leaves (R180). -/
def foldIv (s : State) : State :=
  { s with acc := foldNow s s.acc s.opnd, ivLen := s.ivLen + 16, sess := .ivload, err := .ok }

/-- The effect of IVBLK (R180). -/
def effectIvblk (s : State) : State := foldIv (beginIv s)

/-- IVBLK (41_ghash.md R180): allowed in every state with TV = 1. -/
def execIvblk (s : State) : Host.Outcome State Fault Refusal :=
  carryOut (verdictIvblk s) effectIvblk s

end Sys2Proof.Machine
end

