-- ==== Sys2Proof/Machine/Session.lean ====
section
/-! DEFINITION. NOP, START, AAD, ENC, DEC and GHASHC (spec/42_session.md R200 to R211). -/

namespace Sys2Proof.Machine

open Sys2Proof

/-- NOP (42_session.md R211): `ERR <- OK`, in every state. -/
def execNop (s : State) : Host.Outcome State Fault Refusal :=
  carryOut .noop id s

/-! ### START -/

/-- The checks of START (R201): TV, then LEN, then the IV length in IVLOAD or `lenIV == 0` outside it. -/
def verdictStart (n : Nat) (s : State) : Verdict :=
  if !s.tv then .refuse .state
  else if n > 16 then .refuse .param
  else if s.sess = .ivload then
    if s.ivLen.toNat + n > Config.lenLimit then .limit else .perform
  else if n = 0 then .refuse .param
  else .perform

/-- The general path (R201, 41_ghash.md R178): the last chunk folded if there is one, then the length block. -/
def generalJ0 (x : Block) (n total : Nat) (s : State) : Block :=
  foldNow s (if n > 0 then foldNow s x (pad s.opnd n) else x) (lengthBlock 0 total)

/-- The initial counter block of START (R201): the fast path exactly for LEN = 12 outside IVLOAD. -/
def startJ0 (n : Nat) (s : State) : Block :=
  if s.sess = .ivload then generalJ0 s.acc n (s.ivLen.toNat + n) s
  else if n = 12 then fastJ0 s.opnd
  else generalJ0 0 n n s

/-- `g <- E(j0); clearSession(); CIV <- j0; GCTR0 <- g; STATE <- STARTED; ERR <- OK` (R201). -/
def openSession (j0 : Block) (s : State) : State :=
  { clearSession (cipherRequest j0 s) with civ := j0, gctr0 := cipherAnswer s j0, sess := .started, err := .ok }

/-- The effect of START (R201). -/
def effectStart (n : Nat) (s : State) : State := openSession (startJ0 n s) s

/-- START (42_session.md R201): allowed in every state with TV = 1. -/
def execStart (n : Nat) (s : State) : Host.Outcome State Fault Refusal :=
  carryOut (verdictStart n s) (effectStart n) s

/-! ### AAD -/

/-- The checks of AAD (R203, R204). -/
def verdictAad (n : Nat) (s : State) : Verdict :=
  if s.sess ≠ .started then .refuse .state
  else if s.dmode ≠ .none ∨ s.aphc = true then .refuse .state
  else if n > 16 then .refuse .param
  else if n = 0 then .noop
  else if s.lenA.toNat + n > Config.lenLimit then .limit
  else .perform

/-- The effect of AAD (R203): fold the padded chunk; a partial chunk closes the phase. -/
def effectAad (n : Nat) (s : State) : State :=
  { s with
    acc := foldNow s s.acc (pad s.opnd n)
    lenA := s.lenA + BitVec.ofNat 64 n
    aphc := s.aphc || decide (n < 16)
    err := .ok }

/-- AAD (42_session.md R203). -/
def execAad (n : Nat) (s : State) : Host.Outcome State Fault Refusal :=
  carryOut (verdictAad n s) (effectAad n) s

/-! ### ENC, DEC and GHASHC -/

/-- The checks of a data command of mode `d` (R205 to R207, R209, R210). -/
def verdictData (d : DMode) (n : Nat) (s : State) : Verdict :=
  if s.sess ≠ .started then .refuse .state
  else if (s.dmode ≠ .none ∧ s.dmode ≠ d) ∨ s.dclosed = true then .refuse .state
  else if n > 16 then .refuse .param
  else if n = 0 then .noop
  else if s.blkCnt.toNat + 1 > Config.blkLimit then .limit
  else .perform

/-- The counters and phase flags of a data command of mode `d` and length n ≥ 1, and `ERR <- OK` (R205 to R207). -/
def commitData (d : DMode) (n : Nat) (s : State) : State :=
  { s with
    lenC := s.lenC + BitVec.ofNat 64 n
    blkCnt := s.blkCnt + 1
    dmode := d
    aphc := true
    dclosed := s.dclosed || decide (n < 16)
    err := .ok }

/-- The first `n` bytes of OPND XOR the keystream block of `civ`, zero bytes after them (R205, R206, R208). -/
def keystreamXor (n : Nat) (civ : Block) (s : State) : Block :=
  pad s.opnd n ^^^ pad (cipherAnswer s civ) n

/-- The keystream part of ENC and DEC (R205, R206): CIV advanced first, one request, DOUT, and the fold of the chunk
`folded` that holds the ciphertext. -/
def ctrStep (n : Nat) (folded : Block) (s : State) : State :=
  { cipherRequest (inc32 s.civ) s with
    civ := inc32 s.civ
    dout := keystreamXor n (inc32 s.civ) s
    acc := foldNow s s.acc folded }

/-- The effect of ENC (R205): the output is the ciphertext that is folded. -/
def effectEnc (n : Nat) (s : State) : State :=
  commitData .enc n (ctrStep n (keystreamXor n (inc32 s.civ) s) s)

/-- ENC (42_session.md R205). -/
def execEnc (n : Nat) (s : State) : Host.Outcome State Fault Refusal :=
  carryOut (verdictData .enc n s) (effectEnc n) s

/-- The effect of DEC (R206): the input is the ciphertext that is folded. -/
def effectDec (n : Nat) (s : State) : State :=
  commitData .dec n (ctrStep n (pad s.opnd n) s)

/-- DEC (42_session.md R206). -/
def execDec (n : Nat) (s : State) : Host.Outcome State Fault Refusal :=
  carryOut (verdictData .dec n s) (effectDec n) s

/-- The effect of GHASHC (R207): fold the ciphertext chunk; no keystream, CIV and DOUT kept. -/
def effectGhashc (n : Nat) (s : State) : State :=
  commitData .hash n { s with acc := foldNow s s.acc (pad s.opnd n) }

/-- GHASHC (42_session.md R207). -/
def execGhashc (n : Nat) (s : State) : Host.Outcome State Fault Refusal :=
  carryOut (verdictData .hash n s) (effectGhashc n) s

end Sys2Proof.Machine
end

