-- ==== Sys2Proof/Machine/Table.lean ====
section
/-! DEFINITION. GENH, LOADH and MULH (spec/40_gf128_table.md R144 to R146). -/

namespace Sys2Proof.Machine

open Sys2Proof

/-- `H <- h; M <- genTable(h); TV <- 1; clearSession(); STATE <- IDLE; ERR <- OK`
(40_gf128_table.md R144, R145). -/
def loadTable (h : Block) (s : State) : State :=
  { clearSession s with h := h, m := genTable h, tv := true, sess := .idle, err := .ok }

/-- The effect of GENH (R144): one cipher request for the zero block, then the table, whose subkey is that of the bound
key. -/
def effectGenh (s : State) : State :=
  loadTable (cipherAnswer (settleKey true s) 0) (cipherRequest 0 (settleKey true s))

/-- GENH (40_gf128_table.md R144): allowed in every state. -/
def execGenh (s : State) : Host.Outcome State Fault Refusal :=
  carryOut .perform effectGenh s

/-- The effect of LOADH (R145): the table of OPND, no cipher request. It ends a key change only where OPND is the subkey of
the bound key (70_reset_and_hazards.md R351). -/
def effectLoadh (s : State) : State :=
  loadTable s.opnd (settleKey (subkeyMatches s) s)

/-- LOADH (40_gf128_table.md R145): allowed in every state. -/
def execLoadh (s : State) : Host.Outcome State Fault Refusal :=
  carryOut .perform effectLoadh s

/-- The checks of MULH (R146): ILLEGAL with `DEBUG_MULH` = 0, STATE with TV = 0. -/
def verdictMulh (s : State) : Verdict :=
  if !s.debugMulh then .refuse .illegal
  else if !s.tv then .refuse .state
  else .perform

/-- The effect of MULH (R146): `DOUT <- mulH(OPND)`. -/
def effectMulh (s : State) : State :=
  { s with dout := mulH s.m s.opnd, err := .ok }

/-- MULH (40_gf128_table.md R146). -/
def execMulh (s : State) : Host.Outcome State Fault Refusal :=
  carryOut (verdictMulh s) effectMulh s

end Sys2Proof.Machine
end

