-- ==== Sys2Proof/Machine/Tag.lean ====
section
/-! DEFINITION. FINISH and CHECK (spec/43_tag.md R250 to R257). -/

namespace Sys2Proof.Machine

open Sys2Proof

/-- The checks of FINISH and CHECK (R251, R252): STATE outside STARTED, PARAM for a length outside 4 to 16. -/
def verdictTag (t : Nat) (s : State) : Verdict :=
  if s.sess ≠ .started then .refuse .state
  else if t < 4 ∨ t > 16 then .refuse .param
  else .perform

/-- `S = mulH(ACC ⊕ LB(LENA, LENC))` (R250). -/
def tagHash (s : State) : Block :=
  foldNow s s.acc (lengthBlock s.lenA.toNat s.lenC.toNat)

/-- The full tag `T = S ⊕ GCTR0` (R250). -/
def fullTag (s : State) : Block := tagHash s ^^^ s.gctr0

/-- The effect of FINISH (R251): the first `t` bytes of T into DOUT. -/
def effectFinish (t : Nat) (s : State) : State :=
  { s with acc := tagHash s, dout := pad (fullTag s) t, sess := .finished, err := .ok }

/-- FINISH (43_tag.md R251). -/
def execFinish (t : Nat) (s : State) : Host.Outcome State Fault Refusal :=
  carryOut (verdictTag t s) (effectFinish t) s

/-- The tags agree in all of the first `t` bytes (R252, R253). -/
def tagMatches (t : Nat) (s : State) : Bool := tagDiff t (fullTag s) s.opnd == 0

/-- The effect of CHECK (R252): DOUT is 0 either way; a match sets AUTH_OK, a mismatch reports AUTHFAIL. -/
def effectCheck (t : Nat) (s : State) : State :=
  { s with
    acc := tagHash s
    dout := 0
    sess := .finished
    authOk := s.authOk || tagMatches t s
    err := if tagMatches t s then .ok else .authfail }

/-- CHECK (43_tag.md R252). -/
def execCheck (t : Nat) (s : State) : Host.Outcome State Fault Refusal :=
  carryOut (verdictTag t s) (effectCheck t) s

end Sys2Proof.Machine
end

