-- ==== Sys2Proof/Machine/Dispatch.lean ====
section
/-! DEFINITION. One arm per command of Instr, each one call of its meaning. -/

namespace Sys2Proof.Machine

open Sys2Proof

def exec (i : Instr) (s : State) : Host.Outcome State Fault Refusal :=
  match i with
  | .nop => Sys2Proof.Machine.execNop s
  | .genh => Sys2Proof.Machine.execGenh s
  | .loadh => Sys2Proof.Machine.execLoadh s
  | .mulh => Sys2Proof.Machine.execMulh s
  | .ivblk => Sys2Proof.Machine.execIvblk s
  | .start n => Sys2Proof.Machine.execStart n s
  | .aad n => Sys2Proof.Machine.execAad n s
  | .enc n => Sys2Proof.Machine.execEnc n s
  | .dec n => Sys2Proof.Machine.execDec n s
  | .ghashc n => Sys2Proof.Machine.execGhashc n s
  | .finish n => Sys2Proof.Machine.execFinish n s
  | .check n => Sys2Proof.Machine.execCheck n s

end Sys2Proof.Machine
end

