-- ==== Sys2Proof/Machine/Events.lean ====
section
/-! DEFINITION. The four events of spec/70_reset_and_hazards.md R340 and the binding of a key, the verdict and the
latency of the command in flight (R353, R354). -/

namespace Sys2Proof.Machine

open Sys2Proof

/-- The event `Complete`, for BUSY = 1 (70_reset_and_hazards.md R346): decode PEND, perform the command's rule on OPND
and the current state, and clear BUSY, in one step. -/
def complete (s : State) : Host.Outcome State Fault Refusal :=
  match decode s.debugMulh s.pend with
  | .ok i => retireOutcome (exec i s)
  | .error _ => .next (completeIllegal s)

/-- The effect of one event (70_reset_and_hazards.md R340). `Complete` is enabled only while BUSY = 1. -/
def perform (e : HostEvent) (s : State) : Host.Outcome State Fault Refusal :=
  match e with
  | .read w off => .next (hostRead w off s)
  | .write w off v => .next (hostWrite w off v s)
  | .blockTurn => if s.busy then complete s else .next s
  | .reset => .next (resetBlock s)
  | .bindKey => .next (bindKey s)

/-- The next event of the machine: the first one the outside world has listed; where none is left, the completion of the
command in flight (the fairness of 70_reset_and_hazards.md R340), and an idle block stays as it is (R358; log 1). -/
def nextEvent (s : State) : Host.Outcome State Fault Refusal :=
  match s.host with
  | [] => perform .blockTurn s
  | e :: rest => perform e { s with host := rest }

/-- The verdict of a command's checks in a state (60_exceptions.md R303). -/
def commandVerdict (i : Instr) (s : State) : Verdict :=
  match i with
  | .nop => .noop
  | .genh => .perform
  | .loadh => .perform
  | .mulh => verdictMulh s
  | .ivblk => verdictIvblk s
  | .start n => verdictStart n s
  | .aad n => verdictAad n s
  | .enc n => verdictData .enc n s
  | .dec n => verdictData .dec n s
  | .ghashc n => verdictData .hash n s
  | .finish n => verdictTag n s
  | .check n => verdictTag n s

/-- The result class of the command in flight (70_reset_and_hazards.md R354). -/
def pendingClass (s : State) : ResultClass :=
  match decode s.debugMulh s.pend with
  | .ok i => (commandVerdict i s).resultClass
  | .error _ => .decodeRefusal

/-- The latency of the command in flight, in cycles (70_reset_and_hazards.md R353, R354; log 7). -/
def pendingLatency (s : State) : Nat :=
  Config.latency (fieldOp s.pend) (fieldLen s.pend) (pendingClass s)

end Sys2Proof.Machine
end

