-- ==== Sys2Proof/Machine/Step.lean ====
section
/-! DEFINITION. The step of the machine and the placing of a command as its very next one. -/

namespace Sys2Proof.Machine

open Sys2Proof

/-- One step: the machine's next event (spec/70_reset_and_hazards.md R340). -/
def step (s : State) : Host.Outcome State Fault Refusal := nextEvent s

/-- `s` with the command word `w` accepted, so that the next step is its completion (log 2). -/
def State.withFetchWord (s : State) (nbits w : Nat) : State :=
  acceptNext (BitVec.ofNat 32 (w % 2 ^ nbits)) s

end Sys2Proof.Machine
end

