-- ==== Sys2Proof/Machine/Facade.lean ====
section
/-! DEFINITION. Host programs: the pseudo-instructions of spec/30_encoding.md R110 and the host sequences of
44_facade.md R280 to R286, as functions that perform events of the machine one after the other. They are not commands
of the block (00_scope.md R6, R58); the step does not call them. Each takes `polls`, the number of STATUS reads a `wait`
makes before the completion happens (log 13). -/

namespace Sys2Proof.Machine

open Sys2Proof

/-- A host program: from a state to what it returns and the state it leaves. -/
abbrev HostProg (α : Type) := State → Host.Outcome (α × State) Fault Refusal

/-- Return without any access. -/
def hostPure {α : Type} (a : α) : HostProg α := fun s => .next (a, s)

/-- One program, then another that may use what the first returned. -/
def hostThen {α β : Type} (p : HostProg α) (f : α → HostProg β) : HostProg β := fun s =>
  match p s with
  | .next (a, t) => f a t
  | .fault r => .fault r
  | .refused r => .refused r

/-- One event. -/
def hostEvent (e : HostEvent) : HostProg Unit := fun s =>
  match perform e s with
  | .next t => .next ((), t)
  | .fault r => .fault r
  | .refused r => .refused r

/-- The value of the newest reply. -/
def newestReply : HostProg Word := fun s => .next ((s.replies.headD ⟨0, false⟩).value, s)

/-! ### Pseudo-instructions (30_encoding.md R110) -/

/-- `wr OFF, V`. -/
def wr (off : BitVec 8) (v : Word) : HostProg Unit := hostEvent (.write .w32 off v)

/-- `rd OFF`. -/
def rd (off : BitVec 8) : HostProg Word := hostThen (hostEvent (.read .w32 off)) fun _ => newestReply

/-- `din X`. -/
def din (x : Block) : HostProg Unit :=
  hostThen (wr 0x10 (wordAt x 0)) fun _ =>
  hostThen (wr 0x14 (wordAt x 1)) fun _ =>
  hostThen (wr 0x18 (wordAt x 2)) fun _ =>
  wr 0x1C (wordAt x 3)

/-- `wait`: read STATUS until bit 0 is 0. The completion happens after at most `polls` reads that see BUSY = 1; the
program returns the last value read. -/
def wait : Nat → HostProg Word
  | 0 => hostThen (hostEvent .blockTurn) fun _ => rd 0x04
  | k + 1 => hostThen (rd 0x04) fun v => if v.getLsbD 0 then wait k else hostPure v

/-- `cmd M [n]`: write the command word and wait. -/
def cmd (polls : Nat) (i : Instr) : HostProg Word :=
  hostThen (wr 0x00 (encode i)) fun _ => wait polls

/-- `dout`. -/
def dout : HostProg Block :=
  hostThen (rd 0x20) fun a =>
  hostThen (rd 0x24) fun b =>
  hostThen (rd 0x28) fun c =>
  hostThen (rd 0x2C) fun d =>
  hostPure (a ++ b ++ c ++ d)

/-- `err`: bits 7:5 of STATUS. -/
def errField : HostProg (BitVec 3) :=
  hostThen (rd 0x04) fun v => hostPure (v.extractLsb' 5 3)

/-- `err == OK`. -/
def errOk : HostProg Bool :=
  hostThen errField fun e => hostPure (e == ErrCode.ok.code)

/-! ### Streams -/

/-- `for x in pieces: din pad16(x); cmd M |x|; if err != OK: return fail` (44_facade.md R280, R282). -/
def feed (polls : Nat) (mk : Nat → Instr) : List (List Byte) → HostProg Bool
  | [] => hostPure true
  | x :: xs =>
    hostThen (din (blockOf x)) fun _ =>
    hostThen (cmd polls (mk x.length)) fun _ =>
    hostThen errOk fun good =>
    if good then feed polls mk xs else hostPure false

/-- The same for ENC and DEC, collecting the first |x| bytes of DOUT (44_facade.md R280, R281). -/
def feedOut (polls : Nat) (mk : Nat → Instr) : List (List Byte) → HostProg (Option (List Byte))
  | [] => hostPure (some [])
  | x :: xs =>
    hostThen (din (blockOf x)) fun _ =>
    hostThen (cmd polls (mk x.length)) fun _ =>
    hostThen errOk fun good =>
    if good then
      hostThen dout fun y =>
      hostThen (feedOut polls mk xs) fun rest =>
      hostPure (rest.map fun r => bytesOf x.length y ++ r)
    else hostPure none

/-- The commands of `ivstart` for the chunks of an IV: IVBLK for all but the last, START for the last; no chunk is the
IV of length 0 (44_facade.md R286). -/
def ivFeed (polls : Nat) : List (List Byte) → HostProg Bool
  | [] => hostPure false
  | [c] =>
    hostThen (din (blockOf c)) fun _ =>
    hostThen (cmd polls (.start c.length)) fun _ => errOk
  | c :: cs =>
    hostThen (din (blockOf c)) fun _ =>
    hostThen (cmd polls .ivblk) fun _ =>
    hostThen errOk fun good =>
    if good then ivFeed polls cs else hostPure false

/-- `ivstart(IV)` (44_facade.md R286). -/
def ivstart (polls : Nat) (iv : List Byte) : HostProg Bool := ivFeed polls (chunks iv)

/-- What `put` and `end_stream` emit after a command of `n` bytes: the first `n` bytes of `dout` for ENC and DEC, nothing
(and no access) for AAD and GHASHC (44_facade.md R285). -/
def emitted (emits : Bool) (n : Nat) : HostProg (List Byte) :=
  if emits then hostThen dout fun y => hostPure (bytesOf n y) else hostPure []

/-- The loop of `put` (44_facade.md R285), with a bound on its turns: what is emitted and what stays in the buffer. -/
def putLoop (polls : Nat) (mk : Nat → Instr) (emits : Bool) : Nat → List Byte → HostProg (List Byte × List Byte)
  | 0, buf => hostPure ([], buf)
  | k + 1, buf =>
    if buf.length < 16 then hostPure ([], buf)
    else
      hostThen (din (blockOf (buf.take 16))) fun _ =>
      hostThen (cmd polls (mk 16)) fun _ =>
      hostThen (emitted emits 16) fun out =>
      hostThen (putLoop polls mk emits k (buf.drop 16)) fun r =>
      hostPure (out ++ r.1, r.2)

/-- `put(stream, bytes)` (44_facade.md R285), for the host's buffer `buf`; `emits` for ENC and DEC. -/
def put (polls : Nat) (mk : Nat → Instr) (emits : Bool) (buf bytes : List Byte) : HostProg (List Byte × List Byte) :=
  putLoop polls mk emits (buf ++ bytes).length (buf ++ bytes)

/-- `end_stream(stream)` (44_facade.md R285): what is emitted, and the buffer, which is empty afterwards. -/
def endStream (polls : Nat) (mk : Nat → Instr) (emits : Bool) (buf : List Byte) : HostProg (List Byte × List Byte) :=
  if buf.isEmpty then hostPure ([], [])
  else
    hostThen (din (blockOf buf)) fun _ =>
    hostThen (cmd polls (mk buf.length)) fun _ =>
    hostThen (emitted emits buf.length) fun out =>
    hostPure (out, [])

/-! ### The façade -/

/-- The common part of `gcm_encrypt` and `gcm_decrypt` (44_facade.md R280, R281), for the data command `mk`. A tag length
above 31 has no command word (30_encoding.md R109), so the host's call fails before any access (log 13). -/
def gcmCrypt (polls : Nat) (mk : Nat → Instr) (iv a x : List Byte) (t : Nat) :
    HostProg (Option (List Byte × List Byte)) :=
  if 31 < t then hostPure none
  else
  hostThen (ivstart polls iv) fun opened =>
  if !opened then hostPure none
  else
    hostThen (feed polls .aad (chunks a)) fun aadGood =>
    if !aadGood then hostPure none
    else
      hostThen (feedOut polls mk (chunks x)) fun out =>
      match out with
      | none => hostPure none
      | some y =>
        hostThen (cmd polls (.finish t)) fun _ =>
        hostThen errOk fun good =>
        if good then hostThen dout fun tag => hostPure (some (y, bytesOf t tag)) else hostPure none

/-- `gcm_encrypt(IV, A, P, t)` (44_facade.md R280). -/
def gcmEncrypt (polls : Nat) (iv a p : List Byte) (t : Nat) : HostProg (Option (List Byte × List Byte)) :=
  gcmCrypt polls .enc iv a p t

/-- `gcm_decrypt(IV, A, C, t)` (44_facade.md R281). -/
def gcmDecrypt (polls : Nat) (iv a c : List Byte) (t : Nat) : HostProg (Option (List Byte × List Byte)) :=
  gcmCrypt polls .dec iv a c t

/-- The end of `gcm_check`: `din pad16(τ); cmd CHECK t; s <- rd 0x04`, and ERR = OK and AUTH_OK = 1
(44_facade.md R282). DESIGN CHOICE (log 22): of a τ of 17 to 31 bytes, for which `pad16` is not defined, DIN gets the first
16 bytes; CHECK then reports PARAM, whatever DIN holds. -/
def checkVerdict (polls : Nat) (tag : List Byte) (t : Nat) : HostProg Bool :=
  hostThen (din (blockOf tag)) fun _ =>
  hostThen (cmd polls (.check t)) fun _ =>
  hostThen (rd 0x04) fun v =>
  hostPure (v.extractLsb' 5 3 == ErrCode.ok.code && v.getLsbD 8)

/-- `gcm_check(IV, A, C, τ, t)` (44_facade.md R282). A tag that has not `t` bytes is refused before any command, and so
is a length above 31, which has no command word (30_encoding.md R109). -/
def gcmCheck (polls : Nat) (iv a c tag : List Byte) (t : Nat) : HostProg Bool :=
  if tag.length ≠ t ∨ 31 < t then hostPure false
  else
    hostThen (ivstart polls iv) fun opened =>
    if !opened then hostPure false
    else
      hostThen (feed polls .aad (chunks a)) fun aadGood =>
      if !aadGood then hostPure false
      else
        hostThen (feed polls .ghashc (chunks c)) fun dataGood =>
        if !dataGood then hostPure false else checkVerdict polls tag t

/-- Decryption and verdict in one session (44_facade.md R281): DEC with `CHECK t` in place of `FINISH t`. DESIGN CHOICE
(log 21), where R281 gives no return value: a tag that has not `t` bytes, or `t` above 31, fails before any access; a CHECK
that is refused (PARAM, `t` outside 4 to 16) gives the plaintext with the verdict false. -/
def gcmDecryptCheck (polls : Nat) (iv a c tag : List Byte) (t : Nat) : HostProg (Option (List Byte × Bool)) :=
  if tag.length ≠ t ∨ 31 < t then hostPure none
  else
    hostThen (ivstart polls iv) fun opened =>
    if !opened then hostPure none
    else
      hostThen (feed polls .aad (chunks a)) fun aadGood =>
      if !aadGood then hostPure none
      else
        hostThen (feedOut polls .dec (chunks c)) fun out =>
        match out with
        | none => hostPure none
        | some p => hostThen (checkVerdict polls tag t) fun good => hostPure (some (p, good))

/-- `setCipher` (44_facade.md R283): bind the new key, then `cmd GENH`. -/
def setCipher (polls : Nat) : HostProg Word :=
  hostThen (hostEvent .bindKey) fun _ => cmd polls .genh

/-- `multiplyH(X)` used alone (44_facade.md R284): `din X; cmd MULH; dout`. -/
def multiplyH (polls : Nat) (x : Block) : HostProg Block :=
  hostThen (din x) fun _ =>
  hostThen (cmd polls .mulh) fun _ => dout

end Sys2Proof.Machine
end

