-- ==== Sys2Proof/Machine/Reference.lean ====
section
/-! DEFINITION. What whole streams and whole messages compute, as functions of byte strings: `multiplyData`, GHASH and
J0 (spec/41_ghash.md R173, R176 to R178), the CTR stream (42_session.md R212) and the ciphertext and tag of GCM
(43_tag.md R250, R255; 93_implementation_defined.md I11). No step of the machine calls these: statements compare the
machine with them. -/

namespace Sys2Proof.Machine

open Sys2Proof

/-- `multiplyData(X, D, lenD)` (41_ghash.md R173): fold every chunk of the string, the last one zero-padded. -/
def multiplyData (m : Table) (x : Block) (d : List Byte) : Block :=
  (chunks d).foldl (fun acc c => fold m acc (blockOf c)) x

/-- `GHASH_H(A, C)` (41_ghash.md R176), with H given by its table. -/
def ghash (m : Table) (a c : List Byte) : Block :=
  fold m (multiplyData m (multiplyData m 0 a) c) (lengthBlock a.length c.length)

/-- J0 of an IV (41_ghash.md R177 for 12 bytes, R178 for every other length). -/
def initialCounter (m : Table) (iv : List Byte) : Block :=
  if iv.length = 12 then fastJ0 (blockOf iv) else ghash m [] iv

/-- The CTR stream from the counter block `civ` over chunks (42_session.md R212): each chunk XOR the first bytes of
E of the counter, incremented first. -/
def ctrStream (cipher : Block → Block) : Block → List (List Byte) → List Byte
  | _, [] => []
  | civ, c :: cs => bytesOf c.length (blockOf c ^^^ cipher (inc32 civ)) ++ ctrStream cipher (inc32 civ) cs

/-- The output of the CTR path for a whole message (42_session.md R212, 44_facade.md R287). -/
def gcmStream (cipher : Block → Block) (m : Table) (iv p : List Byte) : List Byte :=
  ctrStream cipher (initialCounter m iv) (chunks p)

/-- The tag of `t` bytes over AAD and ciphertext: `MSB_t(GHASH_H(A, C) ⊕ E(J0))` (43_tag.md R250, R255). -/
def gcmTag (cipher : Block → Block) (m : Table) (iv a c : List Byte) (t : Nat) : List Byte :=
  bytesOf t (ghash m a c ^^^ cipher (initialCounter m iv))

end Sys2Proof.Machine
end

