-- ==== Sys2Proof/Poly.lean ====
section
/-! DEFINITION. The polynomial view of a block (spec/00_scope.md R9) and the product of the field (40_gf128_table.md
R130), in Mathlib's polynomials over GF(2). The machine does not use them: statements compare the machine's
multiplier with them. -/

namespace Sys2Proof

open Polynomial

/-- `poly(X) = Σ X[127−i] · x^i` (00_scope.md R9). -/
noncomputable def polyView (x : Block) : (ZMod 2)[X] :=
  ∑ i ∈ Finset.range 128, if x.getLsbD (127 - i) then (X : (ZMod 2)[X]) ^ i else 0

/-- P = x^128 + x^7 + x^2 + x + 1 (40_gf128_table.md R130). -/
noncomputable def fieldP : (ZMod 2)[X] := X ^ 128 + X ^ 7 + X ^ 2 + X + 1

/-- `z = x • y` (40_gf128_table.md R130): `poly(z)`, which has degree below 128, is `poly(x) · poly(y)` mod P. -/
def IsFieldProduct (x y z : Block) : Prop := fieldP ∣ polyView x * polyView y - polyView z

end Sys2Proof
end

