-- ==== Sys2Proof/Safety.lean ====
section
/-! DEFINITION. What counts as a safe state and a safe run, in the terms the statements use: the invariants of
spec/10_state.md R57 with the facts beside them that make them inductive, the parts of the state that are host-visible
(R30) or public (60_exceptions.md R316), and the host duties the model can see (70_reset_and_hazards.md R355). -/

namespace Sys2Proof.Machine

open Sys2Proof

/-- The invariant of every reachable state: 10_state.md R57 (a) to (h) and what makes them inductive. R57 (i) speaks of the
J0 of the past START, which no register holds: it is stated of what the commands do to CIV. R57 (j) holds since a request
and its answer are inside one completion (70_reset_and_hazards.md R346). -/
structure State.Inv (s : State) : Prop where
  /-- 10_state.md R57 (a). -/
  idleWithoutTable : s.tv = false → s.sess = .idle
  /-- The table is that of H at all times (10_state.md R33, 40_gf128_table.md R134). -/
  tableOfH : s.m = genTable s.h
  /-- No subkey before the first table command (10_state.md R32, R34). -/
  noSubkey : s.tv = false → s.h = 0
  /-- R57 (b). -/
  modeClosesAad : s.dmode ≠ .none → s.aphc = true
  /-- R57 (c). -/
  closedHasMode : s.dclosed = true → s.dmode ≠ .none
  /-- R57 (d), LENA. -/
  lenALimit : s.lenA.toNat ≤ Config.lenLimit
  /-- R57 (d), IVLEN. -/
  ivLenLimit : s.ivLen.toNat ≤ Config.lenLimit
  /-- R57 (d), BLKCNT. -/
  blkCntLimit : s.blkCnt.toNat ≤ Config.blkLimit
  /-- R57 (e), BLKCNT > 0. -/
  lenCBounds : 0 < s.blkCnt.toNat →
    16 * (s.blkCnt.toNat - 1) < s.lenC.toNat ∧ s.lenC.toNat ≤ 16 * s.blkCnt.toNat
  /-- R57 (e), BLKCNT = 0. -/
  lenCZero : s.blkCnt.toNat = 0 → s.lenC.toNat = 0
  /-- R57 (f). -/
  partialDataClosed : s.lenC.toNat % 16 ≠ 0 → s.dclosed = true
  /-- R57 (g). -/
  partialAadClosed : s.lenA.toNat % 16 ≠ 0 → s.aphc = true
  /-- R57 (h). -/
  ivload : s.sess = .ivload →
    16 ≤ s.ivLen.toNat ∧ s.lenA.toNat = 0 ∧ s.lenC.toNat = 0 ∧ s.blkCnt.toNat = 0
  /-- IVLEN counts whole blocks (10_state.md R41). -/
  ivLenBlocks : s.ivLen.toNat % 16 = 0
  /-- Acceptance has cleared AUTH_OK (10_state.md R51). -/
  busyNotAuthentic : s.busy = true → s.authOk = false
  /-- AUTH_OK = 1 stands for a session just verified (10_state.md R51, 43_tag.md R252). -/
  authenticFinished : s.authOk = true → s.sess = .finished ∧ s.err = .ok
  /-- The model's own: a key change counts as torn only while a command is in flight (log 6). -/
  tornOnlyBusy : s.keyPort = .torn → s.busy = true

/-- Two states show the host the same registers (10_state.md R30): STATUS, DIN, DOUT, LENA, LENC and BLKCNT. -/
structure SameVisible (s t : State) : Prop where
  busy : s.busy = t.busy
  sess : s.sess = t.sess
  tv : s.tv = t.tv
  err : s.err = t.err
  authOk : s.authOk = t.authOk
  ovr : s.ovr = t.ovr
  debugMulh : s.debugMulh = t.debugMulh
  din : s.din = t.din
  dout : s.dout = t.dout
  lenA : s.lenA = t.lenA
  lenC : s.lenC = t.lenC
  blkCnt : s.blkCnt = t.blkCnt

/-- Two states agree on all that the error codes other than AUTHFAIL may depend on (60_exceptions.md R316): STATE, TV,
DMODE, APHC, DCLOSED, LENA, IVLEN, BLKCNT and the parameter DEBUG_MULH. They may differ in every secret. -/
structure SamePublic (s t : State) : Prop where
  sess : s.sess = t.sess
  tv : s.tv = t.tv
  dmode : s.dmode = t.dmode
  aphc : s.aphc = t.aphc
  dclosed : s.dclosed = t.dclosed
  lenA : s.lenA = t.lenA
  ivLen : s.ivLen = t.ivLen
  blkCnt : s.blkCnt = t.blkCnt
  debugMulh : s.debugMulh = t.debugMulh

/-- The commands that 44_facade.md R283 allows between the binding of a key and the next table command. An illegal word
has no effect and is allowed. -/
def allowedAfterBinding (debugMulh : Bool) (w : Word) : Bool :=
  match decode debugMulh w with
  | .ok .nop => true
  | .ok .genh => true
  | .ok .loadh => true
  | .ok .mulh => true
  | .ok .ivblk => false
  | .ok (.start _) => false
  | .ok (.aad _) => false
  | .ok (.enc _) => false
  | .ok (.dec _) => false
  | .ok (.ghashc _) => false
  | .ok (.finish _) => false
  | .ok (.check _) => false
  | .error _ => true

/-- Duty H2 of 70_reset_and_hazards.md R355 (R344, R351): outside the commands of `allowedAfterBinding`, a table is there
and every key change has been followed by GENH or by LOADH with the matching H: TV = 1, and no key change is open. -/
def tableDuty (w : Word) (s : State) : Bool :=
  (s.tv && s.keyPort == .settled) || allowedAfterBinding s.debugMulh w

/-- Duty H9 of 70_reset_and_hazards.md R355 (42_session.md R204): in an open session no AAD after data or after a partial
chunk of AAD, and no data after a partial chunk of data. -/
def streamDuty (w : Word) (s : State) : Bool :=
  s.sess != .started ||
  match decode s.debugMulh w with
  | .ok .nop => true
  | .ok .genh => true
  | .ok .loadh => true
  | .ok .mulh => true
  | .ok .ivblk => true
  | .ok (.start _) => true
  | .ok (.aad _) => s.dmode == .none && !s.aphc
  | .ok (.enc _) => !s.dclosed
  | .ok (.dec _) => !s.dclosed
  | .ok (.ghashc _) => !s.dclosed
  | .ok (.finish _) => true
  | .ok (.check _) => true
  | .error _ => true

/-- The results a host must not read while BUSY = 1 (70_reset_and_hazards.md R357 (b)): DOUT, LENA, LENC and BLKCNT.
STATUS may be read at any time (R355, H11). -/
def resultOffset (off : BitVec 8) : Bool := decide (0x20 ≤ off.toNat ∧ off.toNat < 0x44)

/-- The duties of 70_reset_and_hazards.md R355 that one event shows: H2 (a table of the bound key before a session command,
and no key change while a command is in flight), H3 (BUSY = 0 before a CMD write and before reading results) and H9 (legal
chunks). H1 and H8 are outside the block; H4 to H7 speak of what the host does with what it read. -/
def admitted (e : HostEvent) (s : State) : Bool :=
  match e with
  | .read _ off => !(s.busy && resultOffset off)
  | .write w off v =>
    if w = .w32 ∧ off = 0x00 then !s.busy && tableDuty v s && streamDuty v s
    else true
  | .blockTurn => true
  | .reset => true
  | .bindKey => !s.busy

/-! The conditions under which the spec reports each code, written from 60_exceptions.md alone (not from the machine's
verdicts), for commands whose word is legal. -/

/-- A data command of mode `d` is issued where it is not allowed (60_exceptions.md R305). -/
def DataStateError (d : DMode) (s : State) : Prop :=
  s.sess ≠ .started ∨ (s.dmode ≠ .none ∧ s.dmode ≠ d) ∨ s.dclosed = true

/-- The STATE conditions of 60_exceptions.md R305. MULH counts only where it exists (R303: ILLEGAL comes first). -/
def StateError (i : Instr) (s : State) : Prop :=
  match i with
  | .nop => False
  | .genh => False
  | .loadh => False
  | .mulh => s.debugMulh = true ∧ s.tv = false
  | .ivblk => s.tv = false
  | .start _ => s.tv = false
  | .aad _ => s.sess ≠ .started ∨ s.dmode ≠ .none ∨ s.aphc = true
  | .enc _ => DataStateError .enc s
  | .dec _ => DataStateError .dec s
  | .ghashc _ => DataStateError .hash s
  | .finish _ => s.sess ≠ .started
  | .check _ => s.sess ≠ .started

/-- LEN is outside the legal values of its class (60_exceptions.md R306, 30_encoding.md R102). -/
def LenIllegal (i : Instr) (s : State) : Prop :=
  match i with
  | .nop => False
  | .genh => False
  | .loadh => False
  | .mulh => False
  | .ivblk => False
  | .start n => 16 < n ∨ (n = 0 ∧ s.sess ≠ .ivload)
  | .aad n => 16 < n
  | .enc n => 16 < n
  | .dec n => 16 < n
  | .ghashc n => 16 < n
  | .finish t => t < 4 ∨ 16 < t
  | .check t => t < 4 ∨ 16 < t

/-- A data command with n ≥ 1 would be number 2^32 − 1 or later (42_session.md R210). -/
def PastBlockLimit (n : Nat) (s : State) : Prop :=
  1 ≤ n ∧ 2 ^ 32 - 2 < s.blkCnt.toNat + 1

/-- A counter would pass its limit (60_exceptions.md R307, 41_ghash.md R175). -/
def PastLimit (i : Instr) (s : State) : Prop :=
  match i with
  | .nop => False
  | .genh => False
  | .loadh => False
  | .mulh => False
  | .ivblk => s.sess = .ivload ∧ 2 ^ 61 - 1 < s.ivLen.toNat + 16
  | .start n => s.sess = .ivload ∧ 2 ^ 61 - 1 < s.ivLen.toNat + n
  | .aad n => 1 ≤ n ∧ 2 ^ 61 - 1 < s.lenA.toNat + n
  | .enc n => PastBlockLimit n s
  | .dec n => PastBlockLimit n s
  | .ghashc n => PastBlockLimit n s
  | .finish _ => False
  | .check _ => False

/-- A host sequence may begin: the table is there, no command is in flight, the key has not changed since, and no long IV
is half loaded (44_facade.md R280, R283, R288). -/
structure ReadyForMessage (s : State) : Prop where
  table : s.tv = true
  idleBus : s.busy = false
  key : s.keyPort = .settled
  noIv : s.sess ≠ .ivload

end Sys2Proof.Machine
end

