-- ==== Sys2Proof/Certificates/Slice0/Obligations.lean ====
section
/-! DEFINITION. The statements about the model, from the numbered rules of spec/. A result statement of a command gives
the whole next state as an update of the old one, so that it is also the command's frame and its completion. -/

open Sys2Proof Sys2Proof.Machine

/-! ### Events and steps -/

/-- 70_reset_and_hazards.md R341 and 10_state.md R59: Reset sets every register of the block to 0 and changes no
parameter; the reset state of the model is such a state. -/
def Obligations.ResetSetsEveryRegister : Prop :=
  ∀ s : State, ∃ t : State, perform .reset s = .next t ∧
    (t.h = 0 ∧ ∀ i : BitVec 4, tableAt t.m i = 0) ∧ t.tv = false ∧ t.sess = .idle ∧
    t.civ = 0 ∧ t.gctr0 = 0 ∧ t.acc = 0 ∧ t.lenA = 0 ∧ t.lenC = 0 ∧ t.ivLen = 0 ∧ t.blkCnt = 0 ∧
    t.aphc = false ∧ t.dmode = .none ∧ t.dclosed = false ∧
    t.din = 0 ∧ t.dout = 0 ∧ t.opnd = 0 ∧ t.pend = 0 ∧
    t.busy = false ∧ t.err = .ok ∧ t.authOk = false ∧ t.ovr = false ∧
    busRead 0x04 t = (if s.debugMulh then 0x00000400 else 0x00000000) ∧
    t.debugMulh = s.debugMulh ∧ t.keyEpoch = s.keyEpoch ∧
    perform .blockTurn t = .next t ∧
    perform .reset State.reset = .next State.reset

/-- The model's step (log 1) over the events of 70_reset_and_hazards.md R340: the first listed event is performed; with
none listed, the command in flight completes, and an idle block stays as it is. -/
def Obligations.StepPerformsTheFirstEvent : Prop :=
  (∀ (s : State) (e : HostEvent) (rest : List HostEvent), s.host = e :: rest →
    step s = perform e { s with host := rest }) ∧
  (∀ s : State, s.host = [] → s.busy = true → step s = perform .blockTurn s) ∧
  (∀ s : State, s.host = [] → s.busy = false → step s = .next s)

/-- 70_reset_and_hazards.md R346 in the model's step: where PEND decodes to a command, the block's turn runs `exec` of
that command and clears BUSY (and, the model's own bookkeeping of log 5 and log 6, a torn key port becomes rebound and the
counter of free values advances inside a key change); a command
placed by `withFetchWord` (log 2) is what the very next step runs, as accepted. -/
def Obligations.StepRunsTheDecodedCommand : Prop :=
  (∀ (s : State) (i : Instr), s.host = [] → s.busy = true → decode s.debugMulh s.pend = .ok i →
    ∃ t : State, exec i s = .next t ∧
      step s = .next { t with busy := false, keyPort := t.keyPort.afterFlight, freeCtr := nextFree t }) ∧
  (∀ (s : State) (i : Instr) (rest : List HostEvent), s.host = .blockTurn :: rest → s.busy = true →
    decode s.debugMulh s.pend = .ok i →
    ∃ t : State, exec i { s with host := rest } = .next t ∧
      step s = .next { t with busy := false, keyPort := t.keyPort.afterFlight, freeCtr := nextFree t }) ∧
  (∀ (s : State) (i : Instr), i.wellFormed s.debugMulh = true →
    ∃ t : State,
      exec i { s with pend := encode i, opnd := s.din, authOk := false, busy := true } = .next t ∧
      step (s.withFetchWord 32 (encode i).toNat) =
        .next { t with busy := false, keyPort := t.keyPort.afterFlight, freeCtr := nextFree t })

/-- No word, access or event stops the machine (60_exceptions.md R302, R311; 30_encoding.md R106). -/
def Obligations.EveryCommandAndStepCompletes : Prop :=
  (∀ (i : Instr) (s : State), ∃ t : State, exec i s = .next t) ∧
  (∀ (e : HostEvent) (s : State), ∃ t : State, perform e s = .next t) ∧
  (∀ s : State, ∃ t : State, step s = .next t)

/-- Acceptance, 70_reset_and_hazards.md R345 (the reply is the model's, log 9): what is latched, whatever the word; the
completion of an illegal word then reports ILLEGAL. -/
def Obligations.AcceptanceLatchesWordAndOperand : Prop :=
  (∀ (s : State) (w : Word), s.busy = false →
    perform (.write .w32 0x00 w) s =
      .next { s with pend := w, opnd := s.din, authOk := false, busy := true,
                     replies := ⟨0, false⟩ :: s.replies }) ∧
  (∀ (s t u : State) (w : Word) (e : Illegal), s.busy = false → decode s.debugMulh w = .error e →
    perform (.write .w32 0x00 w) s = .next t → perform .blockTurn t = .next u → u.err = .illegal)

/-- Overrun, 70_reset_and_hazards.md R348: OVR is set and nothing else (the reply is the model's, log 9), the command in
flight completes as if the write had not happened, and OVR stays 1 until a STATUS write with bit 9 or a Reset. -/
def Obligations.OverrunDropsTheWord : Prop :=
  (∀ (s : State) (w : Word), s.busy = true →
    perform (.write .w32 0x00 w) s = .next { s with ovr := true, replies := ⟨0, false⟩ :: s.replies }) ∧
  (∀ s t : State, s.busy = true → perform .blockTurn s = .next t →
    perform .blockTurn { s with ovr := true } = .next { t with ovr := true }) ∧
  (∀ (e : HostEvent) (s t : State), perform e s = .next t → s.ovr = true → t.ovr = false →
    e = .reset ∨ ∃ v : Word, e = .write .w32 0x04 v ∧ v.getLsbD 9 = true)

/-- OVR, 10_state.md R52: set by a CMD write while BUSY = 1, cleared by a STATUS write with bit 9 = 1 and by reset, and
changed by nothing else. -/
def Obligations.OverrunFlagChangesOnlyAsSaid : Prop :=
  State.reset.ovr = false ∧
  ∀ (e : HostEvent) (s t : State), perform e s = .next t →
    (∀ w : Word, e = .write .w32 0x00 w → t.ovr = (s.ovr || s.busy)) ∧
    (∀ v : Word, e = .write .w32 0x04 v → t.ovr = (s.ovr && !v.getLsbD 9)) ∧
    (e = .reset → t.ovr = false) ∧
    ((∀ w : Word, e ≠ .write .w32 0x00 w) → (∀ v : Word, e ≠ .write .w32 0x04 v) → e ≠ .reset → t.ovr = s.ovr)

/-- 60_exceptions.md R304 with 30_encoding.md R106: ILLEGAL is reported for exactly the listed words, whatever the rest of
the state, and such a completion changes only ERR and BUSY (and the bookkeeping of log 5 and log 6). -/
def Obligations.IllegalIsReportedForExactlyTheListedWords : Prop :=
  ∀ s : State, s.busy = true → ∃ t : State, perform .blockTurn s = .next t ∧ t.busy = false ∧
    (t.err = .illegal ↔
      (s.pend.extractLsb' 13 19 ≠ 0 ∨ s.pend.extractLsb' 4 4 ≠ 0 ∨ 0xC ≤ (s.pend.extractLsb' 0 4).toNat ∨
        ((s.pend.extractLsb' 0 4).toNat ≤ 4 ∧ s.pend.extractLsb' 8 5 ≠ 0) ∨
        ((s.pend.extractLsb' 0 4).toNat = 3 ∧ s.debugMulh = false))) ∧
    (t.err = .illegal → t = { s with
      err := .illegal, busy := false, keyPort := s.keyPort.afterFlight, freeCtr := nextFree s })

/-! ### The register window -/

/-- STATUS, 10_state.md R54: the value of every field, the effect of a write, and the reset value. -/
def Obligations.StatusFieldsAndWrite : Prop :=
  (∀ s : State, (busRead 0x04 s).toNat =
    s.busy.toNat + 2 * s.sess.code.toNat + 16 * s.tv.toNat + 32 * s.err.code.toNat +
      256 * s.authOk.toNat + 512 * s.ovr.toNat + 1024 * s.debugMulh.toNat) ∧
  (∀ (s : State) (v : Word), perform (.write .w32 0x04 v) s =
    .next { s with ovr := if v.getLsbD 9 then false else s.ovr, replies := ⟨0, false⟩ :: s.replies }) ∧
  (∀ s t : State, perform .reset s = .next t →
    busRead 0x04 t = if s.debugMulh then 0x00000400 else 0x00000000)

/-- 20_memory.md R73: which word and which bits hold byte j of DIN and DOUT, and the integer view. -/
def Obligations.BlockWordsArePackedMostSignificantFirst : Prop :=
  ∀ s : State,
    (∀ j : Nat, j ≤ 15 →
      byteAt s.din j = (busRead (BitVec.ofNat 8 (0x10 + 4 * (j / 4))) s).extractLsb' (24 - 8 * (j % 4)) 8 ∧
      byteAt s.dout j = (busRead (BitVec.ofNat 8 (0x20 + 4 * (j / 4))) s).extractLsb' (24 - 8 * (j % 4)) 8) ∧
    s.din.toNat = (busRead 0x10 s).toNat * 2 ^ 96 + (busRead 0x14 s).toNat * 2 ^ 64 +
      (busRead 0x18 s).toNat * 2 ^ 32 + (busRead 0x1C s).toNat ∧
    s.dout.toNat = (busRead 0x20 s).toNat * 2 ^ 96 + (busRead 0x24 s).toNat * 2 ^ 64 +
      (busRead 0x28 s).toNat * 2 ^ 32 + (busRead 0x2C s).toNat

/-- The rest of the register map (20_memory.md R72, R74, R75; 10_state.md R53, R55, R56): counters, CMD and reserved
offsets; reads change nothing but the replies (log 9); writes to read-only and reserved offsets have no effect. -/
def Obligations.OtherOffsetsReadAndIgnoreWrites : Prop :=
  (∀ s : State, s.lenA.toNat = (busRead 0x30 s).toNat + 2 ^ 32 * (busRead 0x34 s).toNat ∧
    s.lenC.toNat = (busRead 0x38 s).toNat + 2 ^ 32 * (busRead 0x3C s).toNat ∧
    busRead 0x40 s = s.blkCnt ∧ busRead 0x00 s = 0 ∧ busRead 0x08 s = 0 ∧ busRead 0x0C s = 0) ∧
  (∀ (s : State) (off : BitVec 8), 0x44 ≤ off.toNat → busRead off s = 0) ∧
  (∀ (s : State) (off : BitVec 8), off.toNat % 4 = 0 →
    perform (.read .w32 off) s = .next { s with replies := ⟨busRead off s, false⟩ :: s.replies }) ∧
  (∀ (s : State) (off : BitVec 8) (v : Word), off.toNat % 4 = 0 → off ≠ 0x00 → off ≠ 0x04 →
    off ≠ 0x10 → off ≠ 0x14 → off ≠ 0x18 → off ≠ 0x1C →
    perform (.write .w32 off v) s = .next { s with replies := ⟨0, false⟩ :: s.replies })

/-- 20_memory.md R78: an access of another width or alignment gets the error response, changes no state of the block,
and a read of that kind returns 0. -/
def Obligations.BadAccessChangesNothing : Prop :=
  ∀ (s : State) (w : Width) (off : BitVec 8) (v : Word), w ≠ .w32 ∨ off.toNat % 4 ≠ 0 →
    perform (.read w off) s = .next { s with replies := ⟨0, true⟩ :: s.replies } ∧
    perform (.write w off v) s = .next { s with replies := ⟨0, true⟩ :: s.replies }

/-- 70_reset_and_hazards.md R349: DIN may be written while BUSY = 1; the command in flight is not affected, and the next
command accepted takes the new DIN. -/
def Obligations.DinWriteAffectsOnlyTheNextCommand : Prop :=
  (∀ (s : State) (k : Nat) (v : Word), k ≤ 3 → ∃ t : State,
    perform (.write .w32 (BitVec.ofNat 8 (0x10 + 4 * k)) v) s = .next t ∧
    (∀ j : Nat, j ≤ 3 → wordAt t.din j = if j = k then v else wordAt s.din j) ∧
    t = { s with din := t.din, replies := ⟨0, false⟩ :: s.replies }) ∧
  (∀ (s t : State) (d : Block), s.busy = true → perform .blockTurn s = .next t →
    perform .blockTurn { s with din := d } = .next { t with din := d }) ∧
  (∀ (s t : State) (w : Word), s.busy = false → perform (.write .w32 0x00 w) s = .next t →
    t.opnd = s.din)

/-- 20_memory.md R85 (an inference the spec marks as its own) and 70_reset_and_hazards.md R350, over the whole BUSY
interval: right after acceptance every read but STATUS sees the old value, and STATUS differs in BUSY = 1 and AUTH_OK = 0
only; while BUSY = 1 no event but the completion and Reset changes STATUS outside OVR, or any read outside STATUS and DIN,
and none but a DIN write changes DIN. -/
def Obligations.ReadsWhileBusySeeOldValues : Prop :=
  (∀ (s t : State) (w : Word), s.busy = false → perform (.write .w32 0x00 w) s = .next t →
    (∀ off : BitVec 8, off ≠ 0x04 → busRead off t = busRead off s) ∧
    busRead 0x04 t = (busRead 0x04 s ||| 0x00000001) &&& ~~~(0x00000100 : Word)) ∧
  (∀ (e : HostEvent) (s t : State), s.busy = true → perform e s = .next t → e ≠ .blockTurn → e ≠ .reset →
    busRead 0x04 t ||| 0x00000200 = busRead 0x04 s ||| 0x00000200 ∧
    (∀ off : BitVec 8, off ≠ 0x04 → off.toNat < 0x10 ∨ 0x20 ≤ off.toNat → busRead off t = busRead off s) ∧
    ((∀ (k : Nat) (v : Word), k ≤ 3 → e ≠ .write .w32 (BitVec.ofNat 8 (0x10 + 4 * k)) v) →
      ∀ off : BitVec 8, off ≠ 0x04 → busRead off t = busRead off s))

/-- 10_state.md R30: a bus read depends on the host-visible registers only, so none reads an internal register. -/
def Obligations.BusReadsSeeOnlyVisibleRegisters : Prop :=
  ∀ (s t : State) (off : BitVec 8), SameVisible s t → busRead off s = busRead off t

/-! ### The multiplier -/

/-- 40_gf128_table.md R141 (an inference the spec marks as its own): the table multiply is the product of the field. -/
def Obligations.TableMultiplyIsTheFieldProduct : Prop :=
  ∀ h x : Block, mulH (genTable h) x = gfmul x h ∧ IsFieldProduct x h (mulH (genTable h) x)

/-- 40_gf128_table.md R132: the bit-serial algorithm computes the product of polynomials mod P. -/
def Obligations.BitSerialMultiplyIsThePolynomialProduct : Prop :=
  ∀ x y : Block, IsFieldProduct x y (gfmul x y)

/-- 40_gf128_table.md R135 (an inference the spec marks as its own): what every entry of the table is. -/
def Obligations.TableEntriesAreMultiplesOfH : Prop :=
  ∀ h : Block,
    (∀ i : BitVec 4, tableAt (genTable h) i = gfmul ((rev4 i).zeroExtend 128 <<< 124) h) ∧
    tableAt (genTable h) 1 = h ∧ tableAt (genTable h) 2 = mulx h ∧
    tableAt (genTable h) 4 = mulx (mulx h) ∧ tableAt (genTable h) 8 = mulx (mulx (mulx h)) ∧
    ∀ a b : BitVec 4, tableAt (genTable h) (a ^^^ b) = tableAt (genTable h) a ^^^ tableAt (genTable h) b

/-- 40_gf128_table.md R133, R138 and R139 (inferences the spec marks as its own): doubling is the product by x, the
RED4 table is what its formula says, and `mulx4` is the product by x^4. -/
def Obligations.DoublingAndFourfoldDoublingAreProducts : Prop :=
  (∀ v : Block, mulx v = gfmul v 0x40000000000000000000000000000000) ∧
  (∀ c : BitVec 4, red4 c =
    (if c.getLsbD 0 then 0xE100 else 0) ^^^ (if c.getLsbD 1 then 0xE100 >>> 1 else 0) ^^^
      (if c.getLsbD 2 then 0xE100 >>> 2 else 0) ^^^ (if c.getLsbD 3 then 0xE100 >>> 3 else 0)) ∧
  (∀ z : Block, mulx4 z = mulx (mulx (mulx (mulx z)))) ∧
  (∀ z : Block, mulx4 z = gfmul z 0x08000000000000000000000000000000)

/-- 40_gf128_table.md R142 (a) to (c) (inferences the spec marks as its own). -/
def Obligations.MultiplierLaws : Prop :=
  (∀ h : Block, mulH (genTable h) 0 = 0 ∧ mulH (genTable h) blkOne = h) ∧
  (∀ h x y : Block, mulH (genTable h) (x ^^^ y) = mulH (genTable h) x ^^^ mulH (genTable h) y) ∧
  (∀ x : Block, mulH (genTable 0) x = 0)

/-! ### Helpers -/

/-- 41_ghash.md R174 and R172: the counter increment wraps in the low 32 bits only, and the length block is the two bit
lengths, the AAD length first. -/
def Obligations.CounterIncrementAndLengthBlock : Prop :=
  (∀ v : Block, (inc32 v).toNat = v.toNat / 2 ^ 32 * 2 ^ 32 + (v.toNat % 2 ^ 32 + 1) % 2 ^ 32) ∧
  (∀ a c : Nat, (lengthBlock a c).toNat = (8 * a % 2 ^ 64) * 2 ^ 64 + 8 * c % 2 ^ 64) ∧
  (∀ a : Nat, a ≤ Config.lenLimit → 8 * a % 2 ^ 64 = 8 * a)

/-- 41_ghash.md R171: the first n bytes are kept and the others are zero. -/
def Obligations.PaddingZeroesTheTail : Prop :=
  ∀ (b : Block) (n j : Nat), 1 ≤ n → n ≤ 16 → j ≤ 15 →
    byteAt (pad b n) j = if j < n then byteAt b j else 0

/-! ### The commands -/

/-- A class N command has one word: every other word with its opcode is illegal (30_encoding.md R102, R107). -/
def OnlyWord (op : Word) : Prop :=
  ∀ (d : Bool) (w : Word), w &&& 0xF = op → w ≠ op → ∃ e : Illegal, decode d w = .error e

/-- NOP, 42_session.md R211. -/
def Obligations.NopWritesErrOk : Prop :=
  (∀ (d : Bool) (w : Word), decode d w = .ok .nop ↔ w = 0x00000000) ∧ OnlyWord 0x0 ∧
  ∀ s : State, exec .nop s = .next { s with err := .ok }

/-- GENH, 40_gf128_table.md R144, with the key not changed while GENH is in flight (that case: UnsettledKeyAnswersAreFree).
The request is recorded (R90) and the key port settles (70_reset_and_hazards.md R351). -/
def Obligations.GenhBuildsTheTableFromTheCipher : Prop :=
  (∀ (d : Bool) (w : Word), decode d w = .ok .genh ↔ w = 0x00000001) ∧ OnlyWord 0x1 ∧
  ∀ s : State, s.keyPort ≠ .torn →
    exec .genh s = .next { s with
      h := Config.cipher s.keyEpoch 0, m := genTable (Config.cipher s.keyEpoch 0), tv := true
      civ := 0, gctr0 := 0, acc := 0, lenA := 0, lenC := 0, ivLen := 0, blkCnt := 0
      aphc := false, dmode := .none, dclosed := false
      sess := .idle, err := .ok
      keyPort := .settled, cipherLog := 0 :: s.cipherLog }

/-- LOADH, 40_gf128_table.md R145. The model's own key port (log 5, log 6): a key change before its acceptance settles where
OPND is the subkey of the bound key (70_reset_and_hazards.md R351), and stays open elsewhere. -/
def Obligations.LoadhBuildsTheTableFromTheOperand : Prop :=
  (∀ (d : Bool) (w : Word), decode d w = .ok .loadh ↔ w = 0x00000002) ∧ OnlyWord 0x2 ∧
  ∀ s : State,
    exec .loadh s = .next { s with
      h := s.opnd, m := genTable s.opnd, tv := true
      civ := 0, gctr0 := 0, acc := 0, lenA := 0, lenC := 0, ivLen := 0, blkCnt := 0
      aphc := false, dmode := .none, dclosed := false
      sess := .idle, err := .ok
      keyPort := if s.keyPort = .rebound ∧ s.opnd = Config.cipher s.keyEpoch 0 then .settled else s.keyPort }

/-- MULH, 40_gf128_table.md R146: performed with TV = 1, STATE with TV = 0, ILLEGAL where it does not exist. -/
def Obligations.MulhMultipliesTheOperandByH : Prop :=
  (∀ (d : Bool) (w : Word), decode d w = .ok .mulh ↔ w = 0x00000003 ∧ d = true) ∧ OnlyWord 0x3 ∧
  (∀ s : State, s.debugMulh = true → s.tv = true →
    exec .mulh s = .next { s with dout := mulH s.m s.opnd, err := .ok }) ∧
  (∀ s : State, s.debugMulh = true → s.tv = false → exec .mulh s = .next { s with err := .state }) ∧
  (∀ s : State, s.debugMulh = false → exec .mulh s = .next { s with err := .illegal })

/-- IVBLK, 41_ghash.md R180: a further block in IVLOAD, the first block elsewhere (any session is abandoned), the limit,
and TV = 0. The folds are for a settled key (the others: UnsettledKeyAnswersAreFree). -/
def Obligations.IvblkFoldsOneIvBlock : Prop :=
  (∀ (d : Bool) (w : Word), decode d w = .ok .ivblk ↔ w = 0x00000004) ∧ OnlyWord 0x4 ∧
  (∀ s : State, s.tv = true → s.keyPort = .settled → s.sess = .ivload → s.ivLen.toNat + 16 ≤ 2 ^ 61 - 1 →
    exec .ivblk s = .next { s with
      acc := mulH s.m (s.acc ^^^ s.opnd), ivLen := s.ivLen + 16, err := .ok }) ∧
  (∀ s : State, s.tv = true → s.keyPort = .settled → s.sess ≠ .ivload →
    exec .ivblk s = .next { s with
      civ := 0, gctr0 := 0, acc := mulH s.m s.opnd, lenA := 0, lenC := 0, ivLen := 16, blkCnt := 0
      aphc := false, dmode := .none, dclosed := false, sess := .ivload, err := .ok }) ∧
  (∀ s : State, s.tv = true → s.sess = .ivload → 2 ^ 61 - 1 < s.ivLen.toNat + 16 →
    exec .ivblk s = .next { s with sess := .fault, err := .limit }) ∧
  (∀ s : State, s.tv = false → exec .ivblk s = .next { s with err := .state })

/-- The session START opens on a counter block `j0` (42_session.md R201), under a settled key. -/
def SessionOpenedOn (j0 : Block) (s : State) : State :=
  { s with
    civ := j0, gctr0 := Config.cipher s.keyEpoch j0
    acc := 0, lenA := 0, lenC := 0, ivLen := 0, blkCnt := 0
    aphc := false, dmode := .none, dclosed := false
    sess := .started, err := .ok, cipherLog := j0 :: s.cipherLog }

/-- START, 42_session.md R201: the fast path, the general path outside and inside IVLOAD, and the three failures. The
success clauses are for a settled key (the others: UnsettledKeyAnswersAreFree). -/
def Obligations.StartDerivesJ0AndOpensTheSession : Prop :=
  (∀ (d : Bool) (n : Nat), n ≤ 31 → decode d (BitVec.ofNat 32 n <<< 8 ||| 0x5) = .ok (.start n)) ∧
  (∀ s : State, s.tv = true → s.keyPort = .settled → s.sess ≠ .ivload →
    exec (.start 12) s = .next (SessionOpenedOn (s.opnd.extractLsb' 32 96 ++ (1 : BitVec 32)) s)) ∧
  (∀ (s : State) (n : Nat), s.tv = true → s.keyPort = .settled → s.sess ≠ .ivload → 1 ≤ n → n ≤ 16 → n ≠ 12 →
    exec (.start n) s =
      .next (SessionOpenedOn (mulH s.m (mulH s.m (pad s.opnd n) ^^^ lengthBlock 0 n)) s)) ∧
  (∀ (s : State) (n : Nat), s.tv = true → s.keyPort = .settled → s.sess = .ivload → 1 ≤ n → n ≤ 16 →
    s.ivLen.toNat + n ≤ 2 ^ 61 - 1 →
    exec (.start n) s =
      .next (SessionOpenedOn
        (mulH s.m (mulH s.m (s.acc ^^^ pad s.opnd n) ^^^ lengthBlock 0 (s.ivLen.toNat + n))) s)) ∧
  (∀ s : State, s.tv = true → s.keyPort = .settled → s.sess = .ivload → s.ivLen.toNat ≤ 2 ^ 61 - 1 →
    exec (.start 0) s =
      .next (SessionOpenedOn (mulH s.m (s.acc ^^^ lengthBlock 0 s.ivLen.toNat)) s)) ∧
  (∀ (s : State) (n : Nat), s.tv = false → exec (.start n) s = .next { s with err := .state }) ∧
  (∀ (s : State) (n : Nat), s.tv = true → 16 < n ∨ (n = 0 ∧ s.sess ≠ .ivload) →
    exec (.start n) s = .next { s with err := .param }) ∧
  (∀ (s : State) (n : Nat), s.tv = true → s.sess = .ivload → n ≤ 16 → 2 ^ 61 - 1 < s.ivLen.toNat + n →
    exec (.start n) s = .next { s with sess := .fault, err := .limit })

/-- AAD, 42_session.md R203: a chunk of 1 to 16 bytes, a chunk of 0 bytes, and the failures in their order. The fold is for
a settled key (the others: UnsettledKeyAnswersAreFree). -/
def Obligations.AadFoldsOneChunk : Prop :=
  (∀ (d : Bool) (n : Nat), n ≤ 31 → decode d (BitVec.ofNat 32 n <<< 8 ||| 0x6) = .ok (.aad n)) ∧
  (∀ (s : State) (n : Nat), s.sess = .started → s.dmode = .none → s.aphc = false → s.keyPort = .settled →
    1 ≤ n → n ≤ 16 → s.lenA.toNat + n ≤ 2 ^ 61 - 1 →
    exec (.aad n) s = .next { s with
      acc := mulH s.m (s.acc ^^^ pad s.opnd n), lenA := s.lenA + BitVec.ofNat 64 n
      aphc := decide (n < 16), err := .ok }) ∧
  (∀ s : State, s.sess = .started → s.dmode = .none → s.aphc = false →
    exec (.aad 0) s = .next { s with err := .ok }) ∧
  (∀ (s : State) (n : Nat), s.sess ≠ .started ∨ s.dmode ≠ .none ∨ s.aphc = true →
    exec (.aad n) s = .next { s with err := .state }) ∧
  (∀ (s : State) (n : Nat), s.sess = .started → s.dmode = .none → s.aphc = false → 16 < n →
    exec (.aad n) s = .next { s with err := .param }) ∧
  (∀ (s : State) (n : Nat), s.sess = .started → s.dmode = .none → s.aphc = false → 1 ≤ n → n ≤ 16 →
    2 ^ 61 - 1 < s.lenA.toNat + n →
    exec (.aad n) s = .next { s with sess := .fault, err := .limit })

/-- A data command of mode `d` may be issued (42_session.md R204, R205 to R207). -/
def DataOpen (d : DMode) (s : State) : Prop :=
  s.sess = .started ∧ (s.dmode = .none ∨ s.dmode = d) ∧ s.dclosed = false

/-- ENC, 42_session.md R205. The success clause is for a settled key (the others: UnsettledKeyAnswersAreFree). -/
def Obligations.EncEncryptsOneChunk : Prop :=
  (∀ (d : Bool) (n : Nat), n ≤ 31 → decode d (BitVec.ofNat 32 n <<< 8 ||| 0x7) = .ok (.enc n)) ∧
  (∀ (s : State) (n : Nat), DataOpen .enc s → s.keyPort = .settled → 1 ≤ n → n ≤ 16 →
    s.blkCnt.toNat + 1 ≤ 2 ^ 32 - 2 →
    exec (.enc n) s = .next { s with
      civ := inc32 s.civ
      dout := pad (s.opnd ^^^ Config.cipher s.keyEpoch (inc32 s.civ)) n
      acc := mulH s.m (s.acc ^^^ pad (s.opnd ^^^ Config.cipher s.keyEpoch (inc32 s.civ)) n)
      lenC := s.lenC + BitVec.ofNat 64 n, blkCnt := s.blkCnt + 1
      dmode := .enc, aphc := true, dclosed := decide (n < 16), err := .ok
      cipherLog := inc32 s.civ :: s.cipherLog }) ∧
  (∀ s : State, DataOpen .enc s → exec (.enc 0) s = .next { s with err := .ok }) ∧
  (∀ (s : State) (n : Nat), ¬ DataOpen .enc s → exec (.enc n) s = .next { s with err := .state }) ∧
  (∀ (s : State) (n : Nat), DataOpen .enc s → 16 < n → exec (.enc n) s = .next { s with err := .param }) ∧
  (∀ (s : State) (n : Nat), DataOpen .enc s → 1 ≤ n → n ≤ 16 → 2 ^ 32 - 2 < s.blkCnt.toNat + 1 →
    exec (.enc n) s = .next { s with sess := .fault, err := .limit })

/-- DEC, 42_session.md R206: as ENC, but the fold takes the input. -/
def Obligations.DecDecryptsOneChunk : Prop :=
  (∀ (d : Bool) (n : Nat), n ≤ 31 → decode d (BitVec.ofNat 32 n <<< 8 ||| 0x8) = .ok (.dec n)) ∧
  (∀ (s : State) (n : Nat), DataOpen .dec s → s.keyPort = .settled → 1 ≤ n → n ≤ 16 →
    s.blkCnt.toNat + 1 ≤ 2 ^ 32 - 2 →
    exec (.dec n) s = .next { s with
      civ := inc32 s.civ
      dout := pad (s.opnd ^^^ Config.cipher s.keyEpoch (inc32 s.civ)) n
      acc := mulH s.m (s.acc ^^^ pad s.opnd n)
      lenC := s.lenC + BitVec.ofNat 64 n, blkCnt := s.blkCnt + 1
      dmode := .dec, aphc := true, dclosed := decide (n < 16), err := .ok
      cipherLog := inc32 s.civ :: s.cipherLog }) ∧
  (∀ s : State, DataOpen .dec s → exec (.dec 0) s = .next { s with err := .ok }) ∧
  (∀ (s : State) (n : Nat), ¬ DataOpen .dec s → exec (.dec n) s = .next { s with err := .state }) ∧
  (∀ (s : State) (n : Nat), DataOpen .dec s → 16 < n → exec (.dec n) s = .next { s with err := .param }) ∧
  (∀ (s : State) (n : Nat), DataOpen .dec s → 1 ≤ n → n ≤ 16 → 2 ^ 32 - 2 < s.blkCnt.toNat + 1 →
    exec (.dec n) s = .next { s with sess := .fault, err := .limit })

/-- GHASHC, 42_session.md R207: the fold alone, no keystream, no request. The fold is for a settled key (the others:
UnsettledKeyAnswersAreFree). -/
def Obligations.GhashcFoldsOneCiphertextChunk : Prop :=
  (∀ (d : Bool) (n : Nat), n ≤ 31 → decode d (BitVec.ofNat 32 n <<< 8 ||| 0x9) = .ok (.ghashc n)) ∧
  (∀ (s : State) (n : Nat), DataOpen .hash s → s.keyPort = .settled → 1 ≤ n → n ≤ 16 →
    s.blkCnt.toNat + 1 ≤ 2 ^ 32 - 2 →
    exec (.ghashc n) s = .next { s with
      acc := mulH s.m (s.acc ^^^ pad s.opnd n)
      lenC := s.lenC + BitVec.ofNat 64 n, blkCnt := s.blkCnt + 1
      dmode := .hash, aphc := true, dclosed := decide (n < 16), err := .ok }) ∧
  (∀ s : State, DataOpen .hash s → exec (.ghashc 0) s = .next { s with err := .ok }) ∧
  (∀ (s : State) (n : Nat), ¬ DataOpen .hash s → exec (.ghashc n) s = .next { s with err := .state }) ∧
  (∀ (s : State) (n : Nat), DataOpen .hash s → 16 < n → exec (.ghashc n) s = .next { s with err := .param }) ∧
  (∀ (s : State) (n : Nat), DataOpen .hash s → 1 ≤ n → n ≤ 16 → 2 ^ 32 - 2 < s.blkCnt.toNat + 1 →
    exec (.ghashc n) s = .next { s with sess := .fault, err := .limit })

/-- `S = mulH(ACC ⊕ LB(LENA, LENC))` (43_tag.md R250); a free value inside a key change (log 5). -/
def SessionHash (s : State) : Block :=
  if s.keyPort = .settled then mulH s.m (s.acc ^^^ lengthBlock s.lenA.toNat s.lenC.toNat)
  else Config.staleFold s.freeCtr (s.acc ^^^ lengthBlock s.lenA.toNat s.lenC.toNat)

/-- The full tag of the session, `S ⊕ GCTR0` (43_tag.md R250). -/
def SessionTag (s : State) : Block := SessionHash s ^^^ s.gctr0

/-- FINISH, 43_tag.md R251, for every key port: inside a key change S is a free value, which is the model's reading of
44_facade.md R283 and 93_implementation_defined.md I9 (log 5), not R251's. -/
def Obligations.FinishProducesTheTag : Prop :=
  (∀ (d : Bool) (n : Nat), n ≤ 31 → decode d (BitVec.ofNat 32 n <<< 8 ||| 0xA) = .ok (.finish n)) ∧
  (∀ (s : State) (t : Nat), s.sess = .started → 4 ≤ t → t ≤ 16 →
    exec (.finish t) s = .next { s with
      acc := SessionHash s, dout := pad (SessionTag s) t, sess := .finished, err := .ok }) ∧
  (∀ (s : State) (t : Nat), s.sess ≠ .started → exec (.finish t) s = .next { s with err := .state }) ∧
  (∀ (s : State) (t : Nat), s.sess = .started → t < 4 ∨ 16 < t →
    exec (.finish t) s = .next { s with err := .param })

/-- CHECK, 43_tag.md R252, for every key port: match and mismatch of the first t bytes, and the failures. Inside a key
change S is a free value, which is the model's reading of 44_facade.md R283 and 93_implementation_defined.md I9 (log 5), not
R252's. -/
def Obligations.CheckVerifiesTheTag : Prop :=
  (∀ (d : Bool) (n : Nat), n ≤ 31 → decode d (BitVec.ofNat 32 n <<< 8 ||| 0xB) = .ok (.check n)) ∧
  (∀ (s : State) (t : Nat), s.sess = .started → 4 ≤ t → t ≤ 16 →
    bytesOf t (SessionTag s) = bytesOf t s.opnd →
    exec (.check t) s = .next { s with
      acc := SessionHash s, dout := 0, sess := .finished, authOk := true, err := .ok }) ∧
  (∀ (s : State) (t : Nat), s.sess = .started → 4 ≤ t → t ≤ 16 →
    bytesOf t (SessionTag s) ≠ bytesOf t s.opnd →
    exec (.check t) s = .next { s with
      acc := SessionHash s, dout := 0, sess := .finished, err := .authfail }) ∧
  (∀ (s : State) (t : Nat), s.sess ≠ .started → exec (.check t) s = .next { s with err := .state }) ∧
  (∀ (s : State) (t : Nat), s.sess = .started → t < 4 ∨ 16 < t →
    exec (.check t) s = .next { s with err := .param })

/-- The model's treatment of a key change not yet followed by GENH or by LOADH with the matching H (log 5, log 6;
44_facade.md R283, 70_reset_and_hazards.md R351, 93_implementation_defined.md I9 `any value`): GENH with the key torn and the session
commands complete, with free values as the answers of the cipher and as the folds, and with everything else by their rules
(FINISH and CHECK: FinishProducesTheTag and CheckVerifiesTheTag). The binding of a key opens the key change and changes no
register of the block; LOADH of a subkey other than E(0^128) of the bound key leaves it open, and no session command is
admitted then, START among them; LOADH of that subkey, and GENH, settle it; a completion inside it leaves a torn key rebound
and a new value of the counter. -/
def Obligations.UnsettledKeyAnswersAreFree : Prop :=
  (∀ s : State, perform .bindKey s =
    .next { s with keyEpoch := s.keyEpoch + 1, keyPort := if s.busy then .torn else .rebound }) ∧
  (∀ s : State, s.keyPort = .torn →
    exec .genh s = .next { s with
      h := Config.staleAnswer s.freeCtr 0, m := genTable (Config.staleAnswer s.freeCtr 0), tv := true
      civ := 0, gctr0 := 0, acc := 0, lenA := 0, lenC := 0, ivLen := 0, blkCnt := 0
      aphc := false, dmode := .none, dclosed := false
      sess := .idle, err := .ok, cipherLog := 0 :: s.cipherLog }) ∧
  (∀ s : State, s.keyPort ≠ .settled → s.tv = true → s.sess = .ivload → s.ivLen.toNat + 16 ≤ 2 ^ 61 - 1 →
    exec .ivblk s = .next { s with
      acc := Config.staleFold s.freeCtr (s.acc ^^^ s.opnd), ivLen := s.ivLen + 16, err := .ok }) ∧
  (∀ s : State, s.keyPort ≠ .settled → s.tv = true → s.sess ≠ .ivload →
    exec .ivblk s = .next { s with
      civ := 0, gctr0 := 0, acc := Config.staleFold s.freeCtr s.opnd, lenA := 0, lenC := 0, ivLen := 16, blkCnt := 0
      aphc := false, dmode := .none, dclosed := false, sess := .ivload, err := .ok }) ∧
  (∀ (s : State) (n : Nat), s.keyPort ≠ .settled → s.tv = true → n ≤ 16 → (n = 0 → s.sess = .ivload) →
    (s.sess = .ivload → s.ivLen.toNat + n ≤ 2 ^ 61 - 1) →
    exec (.start n) s = .next { SessionOpenedOn (startJ0 n s) s with
      gctr0 := Config.staleAnswer s.freeCtr (startJ0 n s) } ∧
    (n = 12 → s.sess ≠ .ivload → startJ0 n s = s.opnd.extractLsb' 32 96 ++ (1 : BitVec 32)) ∧
    (¬ (n = 12 ∧ s.sess ≠ .ivload) → ∃ x : Block, startJ0 n s = Config.staleFold s.freeCtr x)) ∧
  (∀ (s : State) (n : Nat), s.keyPort ≠ .settled → s.sess = .started → s.dmode = .none → s.aphc = false →
    1 ≤ n → n ≤ 16 → s.lenA.toNat + n ≤ 2 ^ 61 - 1 →
    exec (.aad n) s = .next { s with
      acc := Config.staleFold s.freeCtr (s.acc ^^^ pad s.opnd n), lenA := s.lenA + BitVec.ofNat 64 n
      aphc := decide (n < 16), err := .ok }) ∧
  (∀ (s : State) (n : Nat), s.keyPort ≠ .settled → DataOpen .enc s → 1 ≤ n → n ≤ 16 →
    s.blkCnt.toNat + 1 ≤ 2 ^ 32 - 2 →
    exec (.enc n) s = .next { s with
      civ := inc32 s.civ
      dout := pad (s.opnd ^^^ Config.staleAnswer s.freeCtr (inc32 s.civ)) n
      acc := Config.staleFold s.freeCtr
        (s.acc ^^^ pad (s.opnd ^^^ Config.staleAnswer s.freeCtr (inc32 s.civ)) n)
      lenC := s.lenC + BitVec.ofNat 64 n, blkCnt := s.blkCnt + 1
      dmode := .enc, aphc := true, dclosed := decide (n < 16), err := .ok
      cipherLog := inc32 s.civ :: s.cipherLog }) ∧
  (∀ (s : State) (n : Nat), s.keyPort ≠ .settled → DataOpen .dec s → 1 ≤ n → n ≤ 16 →
    s.blkCnt.toNat + 1 ≤ 2 ^ 32 - 2 →
    exec (.dec n) s = .next { s with
      civ := inc32 s.civ
      dout := pad (s.opnd ^^^ Config.staleAnswer s.freeCtr (inc32 s.civ)) n
      acc := Config.staleFold s.freeCtr (s.acc ^^^ pad s.opnd n)
      lenC := s.lenC + BitVec.ofNat 64 n, blkCnt := s.blkCnt + 1
      dmode := .dec, aphc := true, dclosed := decide (n < 16), err := .ok
      cipherLog := inc32 s.civ :: s.cipherLog }) ∧
  (∀ (s : State) (n : Nat), s.keyPort ≠ .settled → DataOpen .hash s → 1 ≤ n → n ≤ 16 →
    s.blkCnt.toNat + 1 ≤ 2 ^ 32 - 2 →
    exec (.ghashc n) s = .next { s with
      acc := Config.staleFold s.freeCtr (s.acc ^^^ pad s.opnd n)
      lenC := s.lenC + BitVec.ofNat 64 n, blkCnt := s.blkCnt + 1
      dmode := .hash, aphc := true, dclosed := decide (n < 16), err := .ok }) ∧
  (∀ s t : State, s.busy = true → s.keyPort ≠ .settled → perform .blockTurn s = .next t → t.keyPort ≠ .settled →
    t.freeCtr = s.freeCtr + 1 ∧ t.keyPort = .rebound) ∧
  (∀ s t : State, s.busy = true → s.keyPort = .rebound → decode s.debugMulh s.pend = .ok .loadh →
    s.opnd ≠ Config.cipher s.keyEpoch 0 → perform .blockTurn s = .next t →
    t.keyPort = .rebound ∧
    ∀ w : Word, allowedAfterBinding t.debugMulh w = false → admitted (.write .w32 0x00 w) t = false) ∧
  (∀ s t : State, s.busy = true → s.keyPort = .rebound →
    decode s.debugMulh s.pend = .ok .genh ∨
      (decode s.debugMulh s.pend = .ok .loadh ∧ s.opnd = Config.cipher s.keyEpoch 0) →
    perform .blockTurn s = .next t →
    t.keyPort = .settled ∧ ∀ n : Nat, n ≤ 31 → admitted (.write .w32 0x00 (encode (.start n))) t = true)

/-! ### Errors, FAULT and the whole-machine rules -/

/-- 60_exceptions.md R302: what a failing command changes; a CHECK that gives AUTHFAIL is no refused command. -/
def Obligations.FailingCommandsChangeOnlyWhatIsSaid : Prop :=
  ∀ (i : Instr) (s t : State), exec i s = .next t →
    (t.err = .illegal ∨ t.err = .state ∨ t.err = .param → t = { s with err := t.err }) ∧
    (t.err = .limit → t = { s with sess := .fault, err := .limit }) ∧
    (t.err = .authfail → (∃ n : Nat, i = .check n) ∧
      t = { s with
        acc := SessionHash s, dout := 0, sess := .finished, err := .authfail })

/-- 60_exceptions.md R305: when STATE is reported. -/
def Obligations.StateIsReportedExactly : Prop :=
  ∀ (i : Instr) (s t : State), exec i s = .next t → (t.err = .state ↔ StateError i s)

/-- 60_exceptions.md R306 with the priority of R303: when PARAM is reported, and that it leaves the session open. -/
def Obligations.ParamIsReportedExactly : Prop :=
  ∀ (i : Instr) (s t : State), exec i s = .next t →
    (t.err = .param ↔ ¬ StateError i s ∧ LenIllegal i s) ∧ (t.err = .param → t.sess = s.sess)

/-- 60_exceptions.md R307 with the priority of R303: when LIMIT is reported; STATE becomes FAULT, and there every session
command fails with STATE, so that no tag comes. -/
def Obligations.LimitIsReportedExactly : Prop :=
  ∀ (i : Instr) (s t : State), exec i s = .next t →
    (t.err = .limit ↔ ¬ StateError i s ∧ ¬ LenIllegal i s ∧ PastLimit i s) ∧
    (t.err = .limit → t.sess = .fault ∧ ∀ (j : Instr) (n : Nat),
      j = .aad n ∨ j = .enc n ∨ j = .dec n ∨ j = .ghashc n ∨ j = .finish n ∨ j = .check n →
        exec j t = .next { t with err := .state })

/-- 60_exceptions.md R308: AUTHFAIL is reported only by CHECK, only when its state and LEN checks pass and the tags
differ. -/
def Obligations.AuthfailIsReportedOnlyByCheck : Prop :=
  ∀ (i : Instr) (s t : State), exec i s = .next t →
    (t.err = .authfail ↔ ∃ n : Nat, i = .check n ∧ s.sess = .started ∧ 4 ≤ n ∧ n ≤ 16 ∧
      bytesOf n (SessionTag s) ≠ bytesOf n s.opnd)

/-- 60_exceptions.md R309: what leaves FAULT and what does not; TV is kept. -/
def Obligations.FaultIsLeftOnlyByTheListedCommands : Prop :=
  (∀ (i : Instr) (s t : State), s.sess = .fault → s.tv = true → exec i s = .next t →
    t.tv = true ∧
    t.sess = (match i with
      | .nop => SessState.fault
      | .genh => .idle
      | .loadh => .idle
      | .mulh => .fault
      | .ivblk => .ivload
      | .start n => if 1 ≤ n ∧ n ≤ 16 then .started else .fault
      | .aad _ => .fault
      | .enc _ => .fault
      | .dec _ => .fault
      | .ghashc _ => .fault
      | .finish _ => .fault
      | .check _ => .fault) ∧
    ((∃ n : Nat, i = .aad n ∨ i = .enc n ∨ i = .dec n ∨ i = .ghashc n ∨ i = .finish n ∨ i = .check n) →
      t.err = .state)) ∧
  (∀ s t : State, perform .reset s = .next t → t.sess = .idle)

/-- The last column of the table of 42_session.md R200: STATE after success (for CHECK, also after AUTHFAIL, R252). -/
def Obligations.SessionStateAfterSuccess : Prop :=
  ∀ (i : Instr) (s t : State), exec i s = .next t → t.err = .ok ∨ t.err = .authfail →
    t.sess = (match i with
      | .nop => s.sess
      | .genh => .idle
      | .loadh => .idle
      | .mulh => s.sess
      | .ivblk => .ivload
      | .start _ => .started
      | .aad _ => .started
      | .enc _ => .started
      | .dec _ => .started
      | .ghashc _ => .started
      | .finish _ => .finished
      | .check _ => .finished)

/-- 10_state.md R36 and R57 (i) (the second an inference the spec marks as its own): a successful ENC or DEC of 1 to 16
bytes advances CIV once, the commands that abandon a session clear it, START sets it, and nothing else moves it; inside a
session its upper 96 bits stay. -/
def Obligations.CounterBlockMovesOnlyAsSaid : Prop :=
  ∀ (i : Instr) (s t : State), exec i s = .next t →
    (match i with
      | .nop => t.civ = s.civ
      | .genh => t.civ = 0
      | .loadh => t.civ = 0
      | .mulh => t.civ = s.civ
      | .ivblk => t.civ = if t.err = .ok ∧ s.sess ≠ .ivload then 0 else s.civ
      | .start n => t.civ = if t.err = .ok then startJ0 n s else s.civ
      | .aad _ => t.civ = s.civ
      | .enc n => t.civ = if t.err = .ok ∧ n ≠ 0 then inc32 s.civ else s.civ
      | .dec n => t.civ = if t.err = .ok ∧ n ≠ 0 then inc32 s.civ else s.civ
      | .ghashc _ => t.civ = s.civ
      | .finish _ => t.civ = s.civ
      | .check _ => t.civ = s.civ) ∧
    ((∀ n : Nat, i ≠ .start n) → s.sess = .started → t.sess = .started →
      t.civ.extractLsb' 32 96 = s.civ.extractLsb' 32 96)

/-- 10_state.md R32 to R34 over every event: H, M and TV change only at Reset and at the completion of GENH or LOADH; no
command clears TV. -/
def Obligations.OnlyTableCommandsWriteTheTable : Prop :=
  ∀ (e : HostEvent) (s t : State), perform e s = .next t →
    (¬ (t.h = s.h ∧ t.m = s.m ∧ t.tv = s.tv) →
      e = .reset ∨ (e = .blockTurn ∧ s.busy = true ∧
        (decode s.debugMulh s.pend = .ok .genh ∨ decode s.debugMulh s.pend = .ok .loadh))) ∧
    (s.tv = true → t.tv = false → e = .reset)

/-- 10_state.md R51 over every event: AUTH_OK becomes 1 only at the completion of a CHECK whose tags match, such a
completion sets it, every acceptance clears it, and it is 0 after reset. -/
def Obligations.AuthOkOnlyAfterAMatchingCheck : Prop :=
  (∀ (e : HostEvent) (s t : State), perform e s = .next t → s.authOk = false → t.authOk = true →
    e = .blockTurn ∧ s.busy = true ∧ ∃ n : Nat, decode s.debugMulh s.pend = .ok (.check n) ∧
      s.sess = .started ∧ 4 ≤ n ∧ n ≤ 16 ∧ bytesOf n (SessionTag s) = bytesOf n s.opnd) ∧
  (∀ (s : State) (n : Nat), s.busy = true → decode s.debugMulh s.pend = .ok (.check n) → s.sess = .started →
    4 ≤ n → n ≤ 16 → bytesOf n (SessionTag s) = bytesOf n s.opnd →
    ∃ t : State, perform .blockTurn s = .next t ∧ t.authOk = true) ∧
  (∀ (s t : State) (w : Word), s.busy = false → perform (.write .w32 0x00 w) s = .next t → t.authOk = false) ∧
  State.reset.authOk = false

/-- 20_memory.md R90 on the model's record of requests (log 10): GENH, a successful START, and a successful ENC or DEC of
1 to 16 bytes make exactly one request, and everything else makes none. -/
def Obligations.CipherRequestsAreExactlyTheListedOnes : Prop :=
  ∀ (i : Instr) (s t : State), exec i s = .next t →
    t.cipherLog = (match i with
      | .nop => []
      | .genh => [0]
      | .loadh => []
      | .mulh => []
      | .ivblk => []
      | .start _ => if t.err = .ok then [t.civ] else []
      | .aad _ => []
      | .enc n => if t.err = .ok ∧ n ≠ 0 then [inc32 s.civ] else []
      | .dec n => if t.err = .ok ∧ n ≠ 0 then [inc32 s.civ] else []
      | .ghashc _ => []
      | .finish _ => []
      | .check _ => []) ++ s.cipherLog

/-- 60_exceptions.md R316 (an inference the spec marks as its own): two runs that differ in secrets only report the same
code, but for AUTHFAIL against OK of CHECK. -/
def Obligations.ErrorCodesRevealNoSecret : Prop :=
  ∀ (i : Instr) (s₁ s₂ t₁ t₂ : State), SamePublic s₁ s₂ → exec i s₁ = .next t₁ → exec i s₂ = .next t₂ →
    t₁.err = t₂.err ∨
      ((∃ n : Nat, i = .check n) ∧ (t₁.err = .ok ∨ t₁.err = .authfail) ∧ (t₂.err = .ok ∨ t₂.err = .authfail))

/-- 70_reset_and_hazards.md R353 and R354 and 43_tag.md R253, on the model's latency function, which no step reads
(log 7): the latency of the command in flight is at least 1, depends on the opcode, LEN and the result class, and is the
same in two states that differ in secrets only. The result class is the one the ERR of the completion shows, and that of a
CHECK which passes its state and LEN checks is `performed`, whether the tags match or not, so its latency is a function of t
alone. -/
def Obligations.LatencyRevealsNoSecret : Prop :=
  (∀ s t : State, s.busy = true → perform .blockTurn s = .next t →
    (pendingClass s = .decodeRefusal ↔ t.err = .illegal) ∧
    (pendingClass s = .checkRefusal ↔ t.err = .state ∨ t.err = .param ∨ t.err = .limit) ∧
    (pendingClass s = .performed ↔ t.err = .ok ∨ t.err = .authfail)) ∧
  (∀ (s : State) (n : Nat), decode s.debugMulh s.pend = .ok (.check n) → s.sess = .started → 4 ≤ n → n ≤ 16 →
    pendingLatency s = Config.latency 0xB n .performed) ∧
  (∀ s : State, 1 ≤ pendingLatency s ∧
    pendingLatency s = Config.latency (s.pend.extractLsb' 0 4).toNat (s.pend.extractLsb' 8 5).toNat (pendingClass s)) ∧
  ∀ s₁ s₂ : State, SamePublic s₁ s₂ → s₁.pend = s₂.pend → pendingLatency s₁ = pendingLatency s₂

/-- 43_tag.md R254 (and the register effects of R256): with another received tag, CHECK leaves the same state but for ERR
and AUTH_OK (and the operand itself); performed, it shows DOUT = 0 and only OK or AUTHFAIL. -/
def Obligations.CheckShowsOnlyTheVerdict : Prop :=
  (∀ (s t₁ t₂ : State) (n : Nat) (r : Block),
    exec (.check n) s = .next t₁ → exec (.check n) { s with opnd := r } = .next t₂ →
    t₂ = { t₁ with opnd := r, err := t₂.err, authOk := t₂.authOk }) ∧
  (∀ (s t : State) (n : Nat), s.sess = .started → 4 ≤ n → n ≤ 16 → exec (.check n) s = .next t →
    t.dout = 0 ∧ (t.err = .ok ∨ t.err = .authfail))

/-- 43_tag.md R253, and R260 (a), which the spec marks as its own inference: the comparison sees exactly the first t bytes,
all of them, and changing any one bit of an accepted tag of t bytes gives AUTHFAIL. -/
def Obligations.CheckComparesEveryByte : Prop :=
  (∀ (t : Nat) (a b : Block), tagDiff t a b = 0 ↔ ∀ j : Nat, j < t → byteAt a j = byteAt b j) ∧
  (∀ (s t₁ : State) (t k : Nat), 4 ≤ t → t ≤ 16 → s.authOk = false → k < 8 * t →
    exec (.check t) s = .next t₁ → t₁.authOk = true →
    ∃ t₂ : State, exec (.check t) { s with opnd := s.opnd ^^^ ((1 : Block) <<< (127 - k)) } = .next t₂ ∧
      t₂.err = .authfail ∧ t₂.authOk = false)

/-- The reset state meets the invariant. -/
def Obligations.ResetStateMeetsTheInvariant : Prop := State.reset.Inv

/-- 10_state.md R57 (an inference the spec marks as its own), made inductive: every step keeps the invariant. -/
def Obligations.EveryStepKeepsTheInvariant : Prop :=
  ∀ s t : State, s.Inv → step s = .next t → t.Inv

/-- 41_ghash.md R180 (corner case, the spec's own inference): an IV of k ≥ 1 full blocks may end with IVBLK and START 0, or
with START 16; both open the same session. For k = 1 both begin outside IVLOAD. For a settled key (inside a key change the
results are any value, log 5). -/
def Obligations.IvMayEndWithStart0OrStart16 : Prop :=
  ∀ s t u v : State, s.tv = true → s.keyPort = .settled →
    (s.sess = .ivload → s.ivLen.toNat + 16 ≤ 2 ^ 61 - 1) →
    exec .ivblk s = .next t → exec (.start 0) t = .next u → exec (.start 16) s = .next v → u = v

/-! ### Encoding -/

/-- Decoding an encoded well-formed command gives it back, for every command and every LEN (30_encoding.md R106, R109). -/
def Obligations.DecodeOfEncodeIsTheCommand : Prop :=
  ∀ (d : Bool) (i : Instr), i.wellFormed d = true → decode d (encode i) = .ok i

/-- 30_encoding.md R105: a word selects a command exactly when `(w & mask) = match`, with LEN read from bits 12:8. -/
def Obligations.WordSelectsCommandByMaskAndMatch : Prop :=
  ∀ (w : Word) (i : Instr),
    decode true w = .ok i ↔ (w &&& i.rowMask = i.rowMatch ∧ i.len = (w.extractLsb' 8 5).toNat)

/-- Words spelled in 30_encoding.md R109 and 95_test_vectors.md V-E1, V-E2, and what they decode to. -/
def Obligations.SpelledWordsDecode : Prop :=
  decodeTableWord 32 0x00000000 = some .nop ∧ decodeTableWord 32 0x00000001 = some .genh ∧
  decodeTableWord 32 0x00000002 = some .loadh ∧ decodeTableWord 32 0x00000003 = some .mulh ∧
  decodeTableWord 32 0x00000004 = some .ivblk ∧ decodeTableWord 32 0x00000C05 = some (.start 12) ∧
  decodeTableWord 32 0x00000406 = some (.aad 4) ∧ decodeTableWord 32 0x00001007 = some (.enc 16) ∧
  decodeTableWord 32 0x00000C08 = some (.dec 12) ∧ decodeTableWord 32 0x00000109 = some (.ghashc 1) ∧
  decodeTableWord 32 0x0000100A = some (.finish 16) ∧ decodeTableWord 32 0x0000080B = some (.check 8) ∧
  decodeTableWord 32 0x00001004 = none ∧ decodeTableWord 32 0x0000000C = none ∧
  decodeTableWord 32 0x00002005 = none ∧ decodeTableWord 32 0x00000010 = none ∧ decode false 0x00000003 = .error .mulhAbsent

/-! ### Streams and messages -/

/-- 42_session.md R212 (an inference the spec marks as its own): the data commands of a session, ENC or DEC, give each
chunk XOR the first bytes of E of the counter advanced once more, and CIV ends at the last counter used. Right after START
CIV is J0. -/
def Obligations.DataCommandsAreTheCtrStream : Prop :=
  ∀ (polls : Nat) (s : State) (x : List Byte), s.sess = .started → s.busy = false → s.keyPort = .settled →
    s.dclosed = false → s.blkCnt.toNat + (chunks x).length ≤ 2 ^ 32 - 2 →
    (s.dmode = .none ∨ s.dmode = .enc → ∃ t : State,
      feedOut polls .enc (chunks x) s = .next (some (ctrStream (Config.cipher s.keyEpoch) s.civ (chunks x)), t) ∧
      t.civ = inc32^[(chunks x).length] s.civ) ∧
    (s.dmode = .none ∨ s.dmode = .dec → ∃ t : State,
      feedOut polls .dec (chunks x) s = .next (some (ctrStream (Config.cipher s.keyEpoch) s.civ (chunks x)), t) ∧
      t.civ = inc32^[(chunks x).length] s.civ)

/-- A session just opened, with nothing folded yet (42_session.md R201). -/
structure FreshSession (s : State) : Prop where
  started : s.sess = .started
  idleBus : s.busy = false
  key : s.keyPort = .settled
  acc : s.acc = 0
  lenA : s.lenA = 0
  lenC : s.lenC = 0
  blkCnt : s.blkCnt = 0
  aphc : s.aphc = false
  dmode : s.dmode = .none
  dclosed : s.dclosed = false

/-- 42_session.md R213 (an inference the spec marks as its own): before FINISH or CHECK, ACC, LENA and LENC are those of
the whole AAD and the whole ciphertext, for a session of GHASHC, of DEC, and of ENC. -/
def Obligations.SessionAccumulatesGhashOfTheStreams : Prop :=
  ∀ (polls : Nat) (s : State) (a x : List Byte), FreshSession s → a.length ≤ 2 ^ 61 - 1 →
    x.length ≤ 16 * (2 ^ 32 - 2) →
    ∃ s₁ : State, feed polls .aad (chunks a) s = .next (true, s₁) ∧
    (∃ t : State, feed polls .ghashc (chunks x) s₁ = .next (true, t) ∧
      t.acc = multiplyData s.m (multiplyData s.m 0 a) x ∧ t.lenA.toNat = a.length ∧ t.lenC.toNat = x.length) ∧
    (∃ (p : List Byte) (t : State), feedOut polls .dec (chunks x) s₁ = .next (some p, t) ∧
      t.acc = multiplyData s.m (multiplyData s.m 0 a) x ∧ t.lenA.toNat = a.length ∧ t.lenC.toNat = x.length) ∧
    (∃ (c : List Byte) (t : State), feedOut polls .enc (chunks x) s₁ = .next (some c, t) ∧
      t.acc = multiplyData s.m (multiplyData s.m 0 a) c ∧ t.lenA.toNat = a.length ∧ t.lenC.toNat = c.length ∧
      c.length = x.length)

/-- 44_facade.md R287 (an inference the spec marks as its own; GCM-AE as 93_implementation_defined.md I11 gives it): with
the table of E(0^128), `gcm_encrypt` returns the CTR ciphertext and the tag over AAD and ciphertext. -/
def Obligations.GcmEncryptComputesGcm : Prop :=
  ∀ (polls : Nat) (s : State) (iv a p : List Byte) (t : Nat), ReadyForMessage s →
    s.m = genTable (Config.cipher s.keyEpoch 0) →
    1 ≤ iv.length → iv.length ≤ 2 ^ 61 - 1 → a.length ≤ 2 ^ 61 - 1 → p.length ≤ 16 * (2 ^ 32 - 2) →
    4 ≤ t → t ≤ 16 →
    ∃ s₁ : State, gcmEncrypt polls iv a p t s = .next (some
      (gcmStream (Config.cipher s.keyEpoch) (genTable (Config.cipher s.keyEpoch 0)) iv p,
       gcmTag (Config.cipher s.keyEpoch) (genTable (Config.cipher s.keyEpoch 0)) iv a
        (gcmStream (Config.cipher s.keyEpoch) (genTable (Config.cipher s.keyEpoch 0)) iv p) t), s₁)

/-- 43_tag.md R258 (an inference the spec marks as its own): what one session encrypts, a later session with the same key
and table decrypts to the plaintext and the same tag, `gcm_check` accepts it, and a DEC session that ends with CHECK gives
the plaintext and accepts it. -/
def Obligations.EncryptThenDecryptAndCheckRoundTrip : Prop :=
  ∀ (polls polls' : Nat) (iv a p c τ : List Byte) (t : Nat) (s s₁ s₂ : State), ReadyForMessage s →
    gcmEncrypt polls iv a p t s = .next (some (c, τ), s₁) →
    ReadyForMessage s₂ → s₂.m = s.m → s₂.keyEpoch = s.keyEpoch →
    (∃ s₃ : State, gcmDecrypt polls' iv a c t s₂ = .next (some (p, τ), s₃)) ∧
    (∃ s₄ : State, gcmCheck polls' iv a c τ t s₂ = .next (true, s₄)) ∧
    (∃ s₅ : State, gcmDecryptCheck polls' iv a c τ t s₂ = .next (some (p, true), s₅))
end

