-- ==== Sys2Proof/Laws/State.lean ====
section
/-! SUPPORT. One lemma per field and named update of the state: what the update leaves in that field. -/

namespace Sys2Proof.Machine

open Sys2Proof

/-! ### `setErr` -/

section

variable (e : ErrCode) (s : State)

@[simp] theorem setErr_h : (setErr e s).h = s.h := rfl
@[simp] theorem setErr_m : (setErr e s).m = s.m := rfl
@[simp] theorem setErr_tv : (setErr e s).tv = s.tv := rfl
@[simp] theorem setErr_sess : (setErr e s).sess = s.sess := rfl
@[simp] theorem setErr_civ : (setErr e s).civ = s.civ := rfl
@[simp] theorem setErr_gctr0 : (setErr e s).gctr0 = s.gctr0 := rfl
@[simp] theorem setErr_acc : (setErr e s).acc = s.acc := rfl
@[simp] theorem setErr_lenA : (setErr e s).lenA = s.lenA := rfl
@[simp] theorem setErr_lenC : (setErr e s).lenC = s.lenC := rfl
@[simp] theorem setErr_ivLen : (setErr e s).ivLen = s.ivLen := rfl
@[simp] theorem setErr_blkCnt : (setErr e s).blkCnt = s.blkCnt := rfl
@[simp] theorem setErr_aphc : (setErr e s).aphc = s.aphc := rfl
@[simp] theorem setErr_dmode : (setErr e s).dmode = s.dmode := rfl
@[simp] theorem setErr_dclosed : (setErr e s).dclosed = s.dclosed := rfl
@[simp] theorem setErr_din : (setErr e s).din = s.din := rfl
@[simp] theorem setErr_dout : (setErr e s).dout = s.dout := rfl
@[simp] theorem setErr_opnd : (setErr e s).opnd = s.opnd := rfl
@[simp] theorem setErr_busy : (setErr e s).busy = s.busy := rfl
@[simp] theorem setErr_pend : (setErr e s).pend = s.pend := rfl
@[simp] theorem setErr_err : (setErr e s).err = e := rfl
@[simp] theorem setErr_authOk : (setErr e s).authOk = s.authOk := rfl
@[simp] theorem setErr_ovr : (setErr e s).ovr = s.ovr := rfl
@[simp] theorem setErr_debugMulh : (setErr e s).debugMulh = s.debugMulh := rfl
@[simp] theorem setErr_keyEpoch : (setErr e s).keyEpoch = s.keyEpoch := rfl
@[simp] theorem setErr_keyPort : (setErr e s).keyPort = s.keyPort := rfl
@[simp] theorem setErr_freeCtr : (setErr e s).freeCtr = s.freeCtr := rfl
@[simp] theorem setErr_cipherLog : (setErr e s).cipherLog = s.cipherLog := rfl
@[simp] theorem setErr_host : (setErr e s).host = s.host := rfl
@[simp] theorem setErr_replies : (setErr e s).replies = s.replies := rfl

end

/-! ### `limitFail` -/

section

variable (s : State)

@[simp] theorem limitFail_h : (limitFail s).h = s.h := rfl
@[simp] theorem limitFail_m : (limitFail s).m = s.m := rfl
@[simp] theorem limitFail_tv : (limitFail s).tv = s.tv := rfl
@[simp] theorem limitFail_sess : (limitFail s).sess = .fault := rfl
@[simp] theorem limitFail_civ : (limitFail s).civ = s.civ := rfl
@[simp] theorem limitFail_gctr0 : (limitFail s).gctr0 = s.gctr0 := rfl
@[simp] theorem limitFail_acc : (limitFail s).acc = s.acc := rfl
@[simp] theorem limitFail_lenA : (limitFail s).lenA = s.lenA := rfl
@[simp] theorem limitFail_lenC : (limitFail s).lenC = s.lenC := rfl
@[simp] theorem limitFail_ivLen : (limitFail s).ivLen = s.ivLen := rfl
@[simp] theorem limitFail_blkCnt : (limitFail s).blkCnt = s.blkCnt := rfl
@[simp] theorem limitFail_aphc : (limitFail s).aphc = s.aphc := rfl
@[simp] theorem limitFail_dmode : (limitFail s).dmode = s.dmode := rfl
@[simp] theorem limitFail_dclosed : (limitFail s).dclosed = s.dclosed := rfl
@[simp] theorem limitFail_din : (limitFail s).din = s.din := rfl
@[simp] theorem limitFail_dout : (limitFail s).dout = s.dout := rfl
@[simp] theorem limitFail_opnd : (limitFail s).opnd = s.opnd := rfl
@[simp] theorem limitFail_busy : (limitFail s).busy = s.busy := rfl
@[simp] theorem limitFail_pend : (limitFail s).pend = s.pend := rfl
@[simp] theorem limitFail_err : (limitFail s).err = .limit := rfl
@[simp] theorem limitFail_authOk : (limitFail s).authOk = s.authOk := rfl
@[simp] theorem limitFail_ovr : (limitFail s).ovr = s.ovr := rfl
@[simp] theorem limitFail_debugMulh : (limitFail s).debugMulh = s.debugMulh := rfl
@[simp] theorem limitFail_keyEpoch : (limitFail s).keyEpoch = s.keyEpoch := rfl
@[simp] theorem limitFail_keyPort : (limitFail s).keyPort = s.keyPort := rfl
@[simp] theorem limitFail_freeCtr : (limitFail s).freeCtr = s.freeCtr := rfl
@[simp] theorem limitFail_cipherLog : (limitFail s).cipherLog = s.cipherLog := rfl
@[simp] theorem limitFail_host : (limitFail s).host = s.host := rfl
@[simp] theorem limitFail_replies : (limitFail s).replies = s.replies := rfl

end

/-! ### `clearSession` -/

section

variable (s : State)

@[simp] theorem clearSession_h : (clearSession s).h = s.h := rfl
@[simp] theorem clearSession_m : (clearSession s).m = s.m := rfl
@[simp] theorem clearSession_tv : (clearSession s).tv = s.tv := rfl
@[simp] theorem clearSession_sess : (clearSession s).sess = s.sess := rfl
@[simp] theorem clearSession_civ : (clearSession s).civ = 0 := rfl
@[simp] theorem clearSession_gctr0 : (clearSession s).gctr0 = 0 := rfl
@[simp] theorem clearSession_acc : (clearSession s).acc = 0 := rfl
@[simp] theorem clearSession_lenA : (clearSession s).lenA = 0 := rfl
@[simp] theorem clearSession_lenC : (clearSession s).lenC = 0 := rfl
@[simp] theorem clearSession_ivLen : (clearSession s).ivLen = 0 := rfl
@[simp] theorem clearSession_blkCnt : (clearSession s).blkCnt = 0 := rfl
@[simp] theorem clearSession_aphc : (clearSession s).aphc = false := rfl
@[simp] theorem clearSession_dmode : (clearSession s).dmode = .none := rfl
@[simp] theorem clearSession_dclosed : (clearSession s).dclosed = false := rfl
@[simp] theorem clearSession_din : (clearSession s).din = s.din := rfl
@[simp] theorem clearSession_dout : (clearSession s).dout = s.dout := rfl
@[simp] theorem clearSession_opnd : (clearSession s).opnd = s.opnd := rfl
@[simp] theorem clearSession_busy : (clearSession s).busy = s.busy := rfl
@[simp] theorem clearSession_pend : (clearSession s).pend = s.pend := rfl
@[simp] theorem clearSession_err : (clearSession s).err = s.err := rfl
@[simp] theorem clearSession_authOk : (clearSession s).authOk = s.authOk := rfl
@[simp] theorem clearSession_ovr : (clearSession s).ovr = s.ovr := rfl
@[simp] theorem clearSession_debugMulh : (clearSession s).debugMulh = s.debugMulh := rfl
@[simp] theorem clearSession_keyEpoch : (clearSession s).keyEpoch = s.keyEpoch := rfl
@[simp] theorem clearSession_keyPort : (clearSession s).keyPort = s.keyPort := rfl
@[simp] theorem clearSession_freeCtr : (clearSession s).freeCtr = s.freeCtr := rfl
@[simp] theorem clearSession_cipherLog : (clearSession s).cipherLog = s.cipherLog := rfl
@[simp] theorem clearSession_host : (clearSession s).host = s.host := rfl
@[simp] theorem clearSession_replies : (clearSession s).replies = s.replies := rfl

end

/-! ### `cipherRequest` -/

section

variable (b : Block) (s : State)

@[simp] theorem cipherRequest_h : (cipherRequest b s).h = s.h := rfl
@[simp] theorem cipherRequest_m : (cipherRequest b s).m = s.m := rfl
@[simp] theorem cipherRequest_tv : (cipherRequest b s).tv = s.tv := rfl
@[simp] theorem cipherRequest_sess : (cipherRequest b s).sess = s.sess := rfl
@[simp] theorem cipherRequest_civ : (cipherRequest b s).civ = s.civ := rfl
@[simp] theorem cipherRequest_gctr0 : (cipherRequest b s).gctr0 = s.gctr0 := rfl
@[simp] theorem cipherRequest_acc : (cipherRequest b s).acc = s.acc := rfl
@[simp] theorem cipherRequest_lenA : (cipherRequest b s).lenA = s.lenA := rfl
@[simp] theorem cipherRequest_lenC : (cipherRequest b s).lenC = s.lenC := rfl
@[simp] theorem cipherRequest_ivLen : (cipherRequest b s).ivLen = s.ivLen := rfl
@[simp] theorem cipherRequest_blkCnt : (cipherRequest b s).blkCnt = s.blkCnt := rfl
@[simp] theorem cipherRequest_aphc : (cipherRequest b s).aphc = s.aphc := rfl
@[simp] theorem cipherRequest_dmode : (cipherRequest b s).dmode = s.dmode := rfl
@[simp] theorem cipherRequest_dclosed : (cipherRequest b s).dclosed = s.dclosed := rfl
@[simp] theorem cipherRequest_din : (cipherRequest b s).din = s.din := rfl
@[simp] theorem cipherRequest_dout : (cipherRequest b s).dout = s.dout := rfl
@[simp] theorem cipherRequest_opnd : (cipherRequest b s).opnd = s.opnd := rfl
@[simp] theorem cipherRequest_busy : (cipherRequest b s).busy = s.busy := rfl
@[simp] theorem cipherRequest_pend : (cipherRequest b s).pend = s.pend := rfl
@[simp] theorem cipherRequest_err : (cipherRequest b s).err = s.err := rfl
@[simp] theorem cipherRequest_authOk : (cipherRequest b s).authOk = s.authOk := rfl
@[simp] theorem cipherRequest_ovr : (cipherRequest b s).ovr = s.ovr := rfl
@[simp] theorem cipherRequest_debugMulh : (cipherRequest b s).debugMulh = s.debugMulh := rfl
@[simp] theorem cipherRequest_keyEpoch : (cipherRequest b s).keyEpoch = s.keyEpoch := rfl
@[simp] theorem cipherRequest_keyPort : (cipherRequest b s).keyPort = s.keyPort := rfl
@[simp] theorem cipherRequest_freeCtr : (cipherRequest b s).freeCtr = s.freeCtr := rfl
@[simp] theorem cipherRequest_cipherLog : (cipherRequest b s).cipherLog = b :: s.cipherLog := rfl
@[simp] theorem cipherRequest_host : (cipherRequest b s).host = s.host := rfl
@[simp] theorem cipherRequest_replies : (cipherRequest b s).replies = s.replies := rfl

end

/-! ### `settleKey` -/

section

variable (matching : Bool) (s : State)

@[simp] theorem settleKey_h : (settleKey matching s).h = s.h := rfl
@[simp] theorem settleKey_m : (settleKey matching s).m = s.m := rfl
@[simp] theorem settleKey_tv : (settleKey matching s).tv = s.tv := rfl
@[simp] theorem settleKey_sess : (settleKey matching s).sess = s.sess := rfl
@[simp] theorem settleKey_civ : (settleKey matching s).civ = s.civ := rfl
@[simp] theorem settleKey_gctr0 : (settleKey matching s).gctr0 = s.gctr0 := rfl
@[simp] theorem settleKey_acc : (settleKey matching s).acc = s.acc := rfl
@[simp] theorem settleKey_lenA : (settleKey matching s).lenA = s.lenA := rfl
@[simp] theorem settleKey_lenC : (settleKey matching s).lenC = s.lenC := rfl
@[simp] theorem settleKey_ivLen : (settleKey matching s).ivLen = s.ivLen := rfl
@[simp] theorem settleKey_blkCnt : (settleKey matching s).blkCnt = s.blkCnt := rfl
@[simp] theorem settleKey_aphc : (settleKey matching s).aphc = s.aphc := rfl
@[simp] theorem settleKey_dmode : (settleKey matching s).dmode = s.dmode := rfl
@[simp] theorem settleKey_dclosed : (settleKey matching s).dclosed = s.dclosed := rfl
@[simp] theorem settleKey_din : (settleKey matching s).din = s.din := rfl
@[simp] theorem settleKey_dout : (settleKey matching s).dout = s.dout := rfl
@[simp] theorem settleKey_opnd : (settleKey matching s).opnd = s.opnd := rfl
@[simp] theorem settleKey_busy : (settleKey matching s).busy = s.busy := rfl
@[simp] theorem settleKey_pend : (settleKey matching s).pend = s.pend := rfl
@[simp] theorem settleKey_err : (settleKey matching s).err = s.err := rfl
@[simp] theorem settleKey_authOk : (settleKey matching s).authOk = s.authOk := rfl
@[simp] theorem settleKey_ovr : (settleKey matching s).ovr = s.ovr := rfl
@[simp] theorem settleKey_debugMulh : (settleKey matching s).debugMulh = s.debugMulh := rfl
@[simp] theorem settleKey_keyEpoch : (settleKey matching s).keyEpoch = s.keyEpoch := rfl
@[simp] theorem settleKey_keyPort : (settleKey matching s).keyPort = s.keyPort.afterTable matching := rfl
@[simp] theorem settleKey_freeCtr : (settleKey matching s).freeCtr = s.freeCtr := rfl
@[simp] theorem settleKey_cipherLog : (settleKey matching s).cipherLog = s.cipherLog := rfl
@[simp] theorem settleKey_host : (settleKey matching s).host = s.host := rfl
@[simp] theorem settleKey_replies : (settleKey matching s).replies = s.replies := rfl

end

/-! ### `bindKey` -/

section

variable (s : State)

@[simp] theorem bindKey_h : (bindKey s).h = s.h := rfl
@[simp] theorem bindKey_m : (bindKey s).m = s.m := rfl
@[simp] theorem bindKey_tv : (bindKey s).tv = s.tv := rfl
@[simp] theorem bindKey_sess : (bindKey s).sess = s.sess := rfl
@[simp] theorem bindKey_civ : (bindKey s).civ = s.civ := rfl
@[simp] theorem bindKey_gctr0 : (bindKey s).gctr0 = s.gctr0 := rfl
@[simp] theorem bindKey_acc : (bindKey s).acc = s.acc := rfl
@[simp] theorem bindKey_lenA : (bindKey s).lenA = s.lenA := rfl
@[simp] theorem bindKey_lenC : (bindKey s).lenC = s.lenC := rfl
@[simp] theorem bindKey_ivLen : (bindKey s).ivLen = s.ivLen := rfl
@[simp] theorem bindKey_blkCnt : (bindKey s).blkCnt = s.blkCnt := rfl
@[simp] theorem bindKey_aphc : (bindKey s).aphc = s.aphc := rfl
@[simp] theorem bindKey_dmode : (bindKey s).dmode = s.dmode := rfl
@[simp] theorem bindKey_dclosed : (bindKey s).dclosed = s.dclosed := rfl
@[simp] theorem bindKey_din : (bindKey s).din = s.din := rfl
@[simp] theorem bindKey_dout : (bindKey s).dout = s.dout := rfl
@[simp] theorem bindKey_opnd : (bindKey s).opnd = s.opnd := rfl
@[simp] theorem bindKey_busy : (bindKey s).busy = s.busy := rfl
@[simp] theorem bindKey_pend : (bindKey s).pend = s.pend := rfl
@[simp] theorem bindKey_err : (bindKey s).err = s.err := rfl
@[simp] theorem bindKey_authOk : (bindKey s).authOk = s.authOk := rfl
@[simp] theorem bindKey_ovr : (bindKey s).ovr = s.ovr := rfl
@[simp] theorem bindKey_debugMulh : (bindKey s).debugMulh = s.debugMulh := rfl
@[simp] theorem bindKey_keyEpoch : (bindKey s).keyEpoch = s.keyEpoch + 1 := rfl
@[simp] theorem bindKey_keyPort : (bindKey s).keyPort = if s.busy then .torn else .rebound := rfl
@[simp] theorem bindKey_freeCtr : (bindKey s).freeCtr = s.freeCtr := rfl
@[simp] theorem bindKey_cipherLog : (bindKey s).cipherLog = s.cipherLog := rfl
@[simp] theorem bindKey_host : (bindKey s).host = s.host := rfl
@[simp] theorem bindKey_replies : (bindKey s).replies = s.replies := rfl

end

/-! ### `accept` -/

section

variable (w : Word) (s : State)

@[simp] theorem accept_h : (accept w s).h = s.h := rfl
@[simp] theorem accept_m : (accept w s).m = s.m := rfl
@[simp] theorem accept_tv : (accept w s).tv = s.tv := rfl
@[simp] theorem accept_sess : (accept w s).sess = s.sess := rfl
@[simp] theorem accept_civ : (accept w s).civ = s.civ := rfl
@[simp] theorem accept_gctr0 : (accept w s).gctr0 = s.gctr0 := rfl
@[simp] theorem accept_acc : (accept w s).acc = s.acc := rfl
@[simp] theorem accept_lenA : (accept w s).lenA = s.lenA := rfl
@[simp] theorem accept_lenC : (accept w s).lenC = s.lenC := rfl
@[simp] theorem accept_ivLen : (accept w s).ivLen = s.ivLen := rfl
@[simp] theorem accept_blkCnt : (accept w s).blkCnt = s.blkCnt := rfl
@[simp] theorem accept_aphc : (accept w s).aphc = s.aphc := rfl
@[simp] theorem accept_dmode : (accept w s).dmode = s.dmode := rfl
@[simp] theorem accept_dclosed : (accept w s).dclosed = s.dclosed := rfl
@[simp] theorem accept_din : (accept w s).din = s.din := rfl
@[simp] theorem accept_dout : (accept w s).dout = s.dout := rfl
@[simp] theorem accept_opnd : (accept w s).opnd = s.din := rfl
@[simp] theorem accept_busy : (accept w s).busy = true := rfl
@[simp] theorem accept_pend : (accept w s).pend = w := rfl
@[simp] theorem accept_err : (accept w s).err = s.err := rfl
@[simp] theorem accept_authOk : (accept w s).authOk = false := rfl
@[simp] theorem accept_ovr : (accept w s).ovr = s.ovr := rfl
@[simp] theorem accept_debugMulh : (accept w s).debugMulh = s.debugMulh := rfl
@[simp] theorem accept_keyEpoch : (accept w s).keyEpoch = s.keyEpoch := rfl
@[simp] theorem accept_keyPort : (accept w s).keyPort = s.keyPort := rfl
@[simp] theorem accept_freeCtr : (accept w s).freeCtr = s.freeCtr := rfl
@[simp] theorem accept_cipherLog : (accept w s).cipherLog = s.cipherLog := rfl
@[simp] theorem accept_host : (accept w s).host = s.host := rfl
@[simp] theorem accept_replies : (accept w s).replies = s.replies := rfl

end

/-! ### `retire` -/

section

variable (s : State)

@[simp] theorem retire_h : (retire s).h = s.h := rfl
@[simp] theorem retire_m : (retire s).m = s.m := rfl
@[simp] theorem retire_tv : (retire s).tv = s.tv := rfl
@[simp] theorem retire_sess : (retire s).sess = s.sess := rfl
@[simp] theorem retire_civ : (retire s).civ = s.civ := rfl
@[simp] theorem retire_gctr0 : (retire s).gctr0 = s.gctr0 := rfl
@[simp] theorem retire_acc : (retire s).acc = s.acc := rfl
@[simp] theorem retire_lenA : (retire s).lenA = s.lenA := rfl
@[simp] theorem retire_lenC : (retire s).lenC = s.lenC := rfl
@[simp] theorem retire_ivLen : (retire s).ivLen = s.ivLen := rfl
@[simp] theorem retire_blkCnt : (retire s).blkCnt = s.blkCnt := rfl
@[simp] theorem retire_aphc : (retire s).aphc = s.aphc := rfl
@[simp] theorem retire_dmode : (retire s).dmode = s.dmode := rfl
@[simp] theorem retire_dclosed : (retire s).dclosed = s.dclosed := rfl
@[simp] theorem retire_din : (retire s).din = s.din := rfl
@[simp] theorem retire_dout : (retire s).dout = s.dout := rfl
@[simp] theorem retire_opnd : (retire s).opnd = s.opnd := rfl
@[simp] theorem retire_busy : (retire s).busy = false := rfl
@[simp] theorem retire_pend : (retire s).pend = s.pend := rfl
@[simp] theorem retire_err : (retire s).err = s.err := rfl
@[simp] theorem retire_authOk : (retire s).authOk = s.authOk := rfl
@[simp] theorem retire_ovr : (retire s).ovr = s.ovr := rfl
@[simp] theorem retire_debugMulh : (retire s).debugMulh = s.debugMulh := rfl
@[simp] theorem retire_keyEpoch : (retire s).keyEpoch = s.keyEpoch := rfl
@[simp] theorem retire_keyPort : (retire s).keyPort = s.keyPort.afterFlight := rfl
@[simp] theorem retire_freeCtr : (retire s).freeCtr = nextFree s := rfl
@[simp] theorem retire_cipherLog : (retire s).cipherLog = s.cipherLog := rfl
@[simp] theorem retire_host : (retire s).host = s.host := rfl
@[simp] theorem retire_replies : (retire s).replies = s.replies := rfl

end

/-! ### `reply` -/

section

variable (r : BusReply) (s : State)

@[simp] theorem reply_h : (reply r s).h = s.h := rfl
@[simp] theorem reply_m : (reply r s).m = s.m := rfl
@[simp] theorem reply_tv : (reply r s).tv = s.tv := rfl
@[simp] theorem reply_sess : (reply r s).sess = s.sess := rfl
@[simp] theorem reply_civ : (reply r s).civ = s.civ := rfl
@[simp] theorem reply_gctr0 : (reply r s).gctr0 = s.gctr0 := rfl
@[simp] theorem reply_acc : (reply r s).acc = s.acc := rfl
@[simp] theorem reply_lenA : (reply r s).lenA = s.lenA := rfl
@[simp] theorem reply_lenC : (reply r s).lenC = s.lenC := rfl
@[simp] theorem reply_ivLen : (reply r s).ivLen = s.ivLen := rfl
@[simp] theorem reply_blkCnt : (reply r s).blkCnt = s.blkCnt := rfl
@[simp] theorem reply_aphc : (reply r s).aphc = s.aphc := rfl
@[simp] theorem reply_dmode : (reply r s).dmode = s.dmode := rfl
@[simp] theorem reply_dclosed : (reply r s).dclosed = s.dclosed := rfl
@[simp] theorem reply_din : (reply r s).din = s.din := rfl
@[simp] theorem reply_dout : (reply r s).dout = s.dout := rfl
@[simp] theorem reply_opnd : (reply r s).opnd = s.opnd := rfl
@[simp] theorem reply_busy : (reply r s).busy = s.busy := rfl
@[simp] theorem reply_pend : (reply r s).pend = s.pend := rfl
@[simp] theorem reply_err : (reply r s).err = s.err := rfl
@[simp] theorem reply_authOk : (reply r s).authOk = s.authOk := rfl
@[simp] theorem reply_ovr : (reply r s).ovr = s.ovr := rfl
@[simp] theorem reply_debugMulh : (reply r s).debugMulh = s.debugMulh := rfl
@[simp] theorem reply_keyEpoch : (reply r s).keyEpoch = s.keyEpoch := rfl
@[simp] theorem reply_keyPort : (reply r s).keyPort = s.keyPort := rfl
@[simp] theorem reply_freeCtr : (reply r s).freeCtr = s.freeCtr := rfl
@[simp] theorem reply_cipherLog : (reply r s).cipherLog = s.cipherLog := rfl
@[simp] theorem reply_host : (reply r s).host = s.host := rfl
@[simp] theorem reply_replies : (reply r s).replies = r :: s.replies := rfl

end

/-! ### `resetBlock` -/

section

variable (s : State)

@[simp] theorem resetBlock_h : (resetBlock s).h = 0 := rfl
@[simp] theorem resetBlock_m : (resetBlock s).m = Vector.replicate 16 0 := rfl
@[simp] theorem resetBlock_tv : (resetBlock s).tv = false := rfl
@[simp] theorem resetBlock_sess : (resetBlock s).sess = .idle := rfl
@[simp] theorem resetBlock_civ : (resetBlock s).civ = 0 := rfl
@[simp] theorem resetBlock_gctr0 : (resetBlock s).gctr0 = 0 := rfl
@[simp] theorem resetBlock_acc : (resetBlock s).acc = 0 := rfl
@[simp] theorem resetBlock_lenA : (resetBlock s).lenA = 0 := rfl
@[simp] theorem resetBlock_lenC : (resetBlock s).lenC = 0 := rfl
@[simp] theorem resetBlock_ivLen : (resetBlock s).ivLen = 0 := rfl
@[simp] theorem resetBlock_blkCnt : (resetBlock s).blkCnt = 0 := rfl
@[simp] theorem resetBlock_aphc : (resetBlock s).aphc = false := rfl
@[simp] theorem resetBlock_dmode : (resetBlock s).dmode = .none := rfl
@[simp] theorem resetBlock_dclosed : (resetBlock s).dclosed = false := rfl
@[simp] theorem resetBlock_din : (resetBlock s).din = 0 := rfl
@[simp] theorem resetBlock_dout : (resetBlock s).dout = 0 := rfl
@[simp] theorem resetBlock_opnd : (resetBlock s).opnd = 0 := rfl
@[simp] theorem resetBlock_busy : (resetBlock s).busy = false := rfl
@[simp] theorem resetBlock_pend : (resetBlock s).pend = 0 := rfl
@[simp] theorem resetBlock_err : (resetBlock s).err = .ok := rfl
@[simp] theorem resetBlock_authOk : (resetBlock s).authOk = false := rfl
@[simp] theorem resetBlock_ovr : (resetBlock s).ovr = false := rfl
@[simp] theorem resetBlock_debugMulh : (resetBlock s).debugMulh = s.debugMulh := rfl
@[simp] theorem resetBlock_keyEpoch : (resetBlock s).keyEpoch = s.keyEpoch := rfl
@[simp] theorem resetBlock_keyPort : (resetBlock s).keyPort = s.keyPort.afterFlight := rfl
@[simp] theorem resetBlock_freeCtr : (resetBlock s).freeCtr = s.freeCtr := rfl
@[simp] theorem resetBlock_cipherLog : (resetBlock s).cipherLog = s.cipherLog := rfl
@[simp] theorem resetBlock_host : (resetBlock s).host = s.host := rfl
@[simp] theorem resetBlock_replies : (resetBlock s).replies = s.replies := rfl

end

/-! ### `commitData` -/

section

variable (d : DMode) (n : Nat) (s : State)

@[simp] theorem commitData_h : (commitData d n s).h = s.h := rfl
@[simp] theorem commitData_m : (commitData d n s).m = s.m := rfl
@[simp] theorem commitData_tv : (commitData d n s).tv = s.tv := rfl
@[simp] theorem commitData_sess : (commitData d n s).sess = s.sess := rfl
@[simp] theorem commitData_civ : (commitData d n s).civ = s.civ := rfl
@[simp] theorem commitData_gctr0 : (commitData d n s).gctr0 = s.gctr0 := rfl
@[simp] theorem commitData_acc : (commitData d n s).acc = s.acc := rfl
@[simp] theorem commitData_lenA : (commitData d n s).lenA = s.lenA := rfl
@[simp] theorem commitData_lenC : (commitData d n s).lenC = s.lenC + BitVec.ofNat 64 n := rfl
@[simp] theorem commitData_ivLen : (commitData d n s).ivLen = s.ivLen := rfl
@[simp] theorem commitData_blkCnt : (commitData d n s).blkCnt = s.blkCnt + 1 := rfl
@[simp] theorem commitData_aphc : (commitData d n s).aphc = true := rfl
@[simp] theorem commitData_dmode : (commitData d n s).dmode = d := rfl
@[simp] theorem commitData_dclosed : (commitData d n s).dclosed = (s.dclosed || decide (n < 16)) := rfl
@[simp] theorem commitData_din : (commitData d n s).din = s.din := rfl
@[simp] theorem commitData_dout : (commitData d n s).dout = s.dout := rfl
@[simp] theorem commitData_opnd : (commitData d n s).opnd = s.opnd := rfl
@[simp] theorem commitData_busy : (commitData d n s).busy = s.busy := rfl
@[simp] theorem commitData_pend : (commitData d n s).pend = s.pend := rfl
@[simp] theorem commitData_err : (commitData d n s).err = .ok := rfl
@[simp] theorem commitData_authOk : (commitData d n s).authOk = s.authOk := rfl
@[simp] theorem commitData_ovr : (commitData d n s).ovr = s.ovr := rfl
@[simp] theorem commitData_debugMulh : (commitData d n s).debugMulh = s.debugMulh := rfl
@[simp] theorem commitData_keyEpoch : (commitData d n s).keyEpoch = s.keyEpoch := rfl
@[simp] theorem commitData_keyPort : (commitData d n s).keyPort = s.keyPort := rfl
@[simp] theorem commitData_freeCtr : (commitData d n s).freeCtr = s.freeCtr := rfl
@[simp] theorem commitData_cipherLog : (commitData d n s).cipherLog = s.cipherLog := rfl
@[simp] theorem commitData_host : (commitData d n s).host = s.host := rfl
@[simp] theorem commitData_replies : (commitData d n s).replies = s.replies := rfl

end

/-! ### `ctrStep` -/

section

variable (n : Nat) (c : Block) (s : State)

@[simp] theorem ctrStep_h : (ctrStep n c s).h = s.h := rfl
@[simp] theorem ctrStep_m : (ctrStep n c s).m = s.m := rfl
@[simp] theorem ctrStep_tv : (ctrStep n c s).tv = s.tv := rfl
@[simp] theorem ctrStep_sess : (ctrStep n c s).sess = s.sess := rfl
@[simp] theorem ctrStep_civ : (ctrStep n c s).civ = inc32 s.civ := rfl
@[simp] theorem ctrStep_gctr0 : (ctrStep n c s).gctr0 = s.gctr0 := rfl
@[simp] theorem ctrStep_acc : (ctrStep n c s).acc = foldNow s s.acc c := rfl
@[simp] theorem ctrStep_lenA : (ctrStep n c s).lenA = s.lenA := rfl
@[simp] theorem ctrStep_lenC : (ctrStep n c s).lenC = s.lenC := rfl
@[simp] theorem ctrStep_ivLen : (ctrStep n c s).ivLen = s.ivLen := rfl
@[simp] theorem ctrStep_blkCnt : (ctrStep n c s).blkCnt = s.blkCnt := rfl
@[simp] theorem ctrStep_aphc : (ctrStep n c s).aphc = s.aphc := rfl
@[simp] theorem ctrStep_dmode : (ctrStep n c s).dmode = s.dmode := rfl
@[simp] theorem ctrStep_dclosed : (ctrStep n c s).dclosed = s.dclosed := rfl
@[simp] theorem ctrStep_din : (ctrStep n c s).din = s.din := rfl
@[simp] theorem ctrStep_dout : (ctrStep n c s).dout = keystreamXor n (inc32 s.civ) s := rfl
@[simp] theorem ctrStep_opnd : (ctrStep n c s).opnd = s.opnd := rfl
@[simp] theorem ctrStep_busy : (ctrStep n c s).busy = s.busy := rfl
@[simp] theorem ctrStep_pend : (ctrStep n c s).pend = s.pend := rfl
@[simp] theorem ctrStep_err : (ctrStep n c s).err = s.err := rfl
@[simp] theorem ctrStep_authOk : (ctrStep n c s).authOk = s.authOk := rfl
@[simp] theorem ctrStep_ovr : (ctrStep n c s).ovr = s.ovr := rfl
@[simp] theorem ctrStep_debugMulh : (ctrStep n c s).debugMulh = s.debugMulh := rfl
@[simp] theorem ctrStep_keyEpoch : (ctrStep n c s).keyEpoch = s.keyEpoch := rfl
@[simp] theorem ctrStep_keyPort : (ctrStep n c s).keyPort = s.keyPort := rfl
@[simp] theorem ctrStep_freeCtr : (ctrStep n c s).freeCtr = s.freeCtr := rfl
@[simp] theorem ctrStep_cipherLog : (ctrStep n c s).cipherLog = inc32 s.civ :: s.cipherLog := rfl
@[simp] theorem ctrStep_host : (ctrStep n c s).host = s.host := rfl
@[simp] theorem ctrStep_replies : (ctrStep n c s).replies = s.replies := rfl

end

end Sys2Proof.Machine
end

