-- ==== Sys2Proof/Laws/Ops.lean ====
section
/-! SUPPORT. One lemma for each shared operation that says everything it can do: `carryOut` and `exec` by the verdict of
the checks, the conditions of each verdict, the end of a completion, the cipher port, and the events. -/

namespace Sys2Proof.Machine

open Sys2Proof

/-! ### `carryOut` and `exec` -/

/-- All that `carryOut` can answer. -/
theorem carryOut_cases {v : Verdict} {f : State → State} {s t : State} (h : carryOut v f s = .next t) :
    (∃ e, v = .refuse e ∧ t = setErr e s) ∨ (v = .limit ∧ t = limitFail s) ∨
      (v = .noop ∧ t = setErr .ok s) ∨ (v = .perform ∧ t = f s) := by
  cases v with
  | refuse e => exact .inl ⟨e, rfl, (Host.Outcome.next.inj h).symm⟩
  | limit => exact .inr (.inl ⟨rfl, (Host.Outcome.next.inj h).symm⟩)
  | noop => exact .inr (.inr (.inl ⟨rfl, (Host.Outcome.next.inj h).symm⟩))
  | perform => exact .inr (.inr (.inr ⟨rfl, (Host.Outcome.next.inj h).symm⟩))

@[simp] theorem carryOut_refuse (e : ErrCode) (f : State → State) (s : State) :
    carryOut (.refuse e) f s = .next (setErr e s) := rfl

@[simp] theorem carryOut_limit (f : State → State) (s : State) : carryOut .limit f s = .next (limitFail s) := rfl

@[simp] theorem carryOut_noop (f : State → State) (s : State) : carryOut .noop f s = .next (setErr .ok s) := rfl

@[simp] theorem carryOut_perform (f : State → State) (s : State) : carryOut .perform f s = .next (f s) := rfl

/-- The effect of each command when its checks pass. -/
def commandEffect (i : Instr) (s : State) : State :=
  match i with
  | .nop => setErr .ok s
  | .genh => effectGenh s
  | .loadh => effectLoadh s
  | .mulh => effectMulh s
  | .ivblk => effectIvblk s
  | .start n => effectStart n s
  | .aad n => effectAad n s
  | .enc n => effectEnc n s
  | .dec n => effectDec n s
  | .ghashc n => effectGhashc n s
  | .finish n => effectFinish n s
  | .check n => effectCheck n s

/-- Every command is its verdict carried out on its effect. -/
theorem exec_eq_carryOut (i : Instr) (s : State) :
    exec i s = carryOut (commandVerdict i s) (commandEffect i) s := by
  cases i <;> rfl

/-- All that a command can answer: a refusal that changes ERR, a LIMIT failure, a no-op, or its effect. -/
theorem exec_cases {i : Instr} {s t : State} (h : exec i s = .next t) :
    (∃ e, commandVerdict i s = .refuse e ∧ t = setErr e s) ∨
      (commandVerdict i s = .limit ∧ t = limitFail s) ∨
      (commandVerdict i s = .noop ∧ t = setErr .ok s) ∨
      (commandVerdict i s = .perform ∧ t = commandEffect i s) :=
  carryOut_cases (by rw [← exec_eq_carryOut]; exact h)

/-- A check refuses with ILLEGAL, STATE or PARAM only. -/
theorem refuse_code {i : Instr} {s : State} {e : ErrCode} (h : commandVerdict i s = .refuse e) :
    e = .illegal ∨ e = .state ∨ e = .param := by
  cases i <;> simp only [commandVerdict, verdictMulh, verdictIvblk, verdictStart, verdictAad, verdictData, verdictTag] at h
    <;> (try split_ifs at h) <;> cases h <;> simp

/-! ### When the checks pass -/

theorem verdictMulh_perform {s : State} :
    verdictMulh s = .perform ↔ s.debugMulh = true ∧ s.tv = true := by
  unfold verdictMulh; cases s.debugMulh <;> cases s.tv <;> simp

theorem verdictIvblk_perform {s : State} :
    verdictIvblk s = .perform ↔ s.tv = true ∧ ivBase s + 16 ≤ Config.lenLimit := by
  unfold verdictIvblk; cases s.tv <;> simp

theorem verdictStart_perform {n : Nat} {s : State} :
    verdictStart n s = .perform ↔ s.tv = true ∧ n ≤ 16 ∧
      (s.sess = .ivload ∧ s.ivLen.toNat + n ≤ Config.lenLimit ∨ s.sess ≠ .ivload ∧ n ≠ 0) := by
  unfold verdictStart; cases s.tv <;> simp; split_ifs <;> simp_all

theorem verdictAad_perform {n : Nat} {s : State} :
    verdictAad n s = .perform ↔ s.sess = .started ∧ s.dmode = .none ∧ s.aphc = false ∧ n ≤ 16 ∧ n ≠ 0 ∧
      s.lenA.toNat + n ≤ Config.lenLimit := by
  unfold verdictAad
  split_ifs with h₁ h₂ h₃ h₄ h₅ <;> simp only [false_iff, true_iff]
  · exact fun h => h₁ h.1
  · exact fun h => h₂.elim (fun hd => hd h.2.1) (fun ha => by simp [h.2.2.1] at ha)
  · exact fun h => absurd h.2.2.2.1 (by omega)
  · exact fun h => h.2.2.2.2.1 h₄
  · exact fun h => absurd h.2.2.2.2.2 (by omega)
  · simp_all

theorem verdictData_perform {d : DMode} {n : Nat} {s : State} :
    verdictData d n s = .perform ↔ s.sess = .started ∧ (s.dmode = .none ∨ s.dmode = d) ∧ s.dclosed = false ∧
      n ≤ 16 ∧ n ≠ 0 ∧ s.blkCnt.toNat + 1 ≤ Config.blkLimit := by
  unfold verdictData
  split_ifs with h₁ h₂ h₃ h₄ h₅ <;> simp only [false_iff, true_iff]
  · exact fun h => h₁ h.1
  · exact fun h => h₂.elim (fun hm => h.2.1.elim hm.1 hm.2) (fun hc => by simp [h.2.2.1] at hc)
  · exact fun h => absurd h.2.2.2.1 (by omega)
  · exact fun h => h.2.2.2.2.1 h₄
  · exact fun h => absurd h.2.2.2.2.2 (by omega)
  · refine ⟨not_not.mp h₁, ?_, ?_, by omega, h₄, by omega⟩
    · exact Classical.byContradiction fun hm => h₂ (.inl (not_or.mp hm))
    · exact Bool.eq_false_iff.mpr fun hc => h₂ (.inr hc)

theorem verdictTag_perform {t : Nat} {s : State} :
    verdictTag t s = .perform ↔ s.sess = .started ∧ 4 ≤ t ∧ t ≤ 16 := by
  unfold verdictTag; split_ifs <;> simp_all; omega

/-! ### The cipher port and the end of a completion -/

@[simp] theorem cipherAnswer_settled {s : State} (b : Block) (h : s.keyPort = .settled) :
    cipherAnswer s b = Config.cipher s.keyEpoch b := by
  simp [cipherAnswer, h]

theorem cipherAnswer_unsettled {s : State} (b : Block) (h : s.keyPort ≠ .settled) :
    cipherAnswer s b = Config.staleAnswer s.freeCtr b := by
  unfold cipherAnswer; split <;> simp_all

@[simp] theorem foldNow_settled {s : State} (acc b : Block) (h : s.keyPort = .settled) :
    foldNow s acc b = fold s.m acc b := by
  simp [foldNow, h]

theorem foldNow_unsettled {s : State} (acc b : Block) (h : s.keyPort ≠ .settled) :
    foldNow s acc b = Config.staleFold s.freeCtr (acc ^^^ b) := by
  unfold foldNow; split <;> simp_all

/-- A matching table command leaves no key change open but one that came during it. -/
@[simp] theorem KeyPort.afterTable_true (k : KeyPort) : k.afterTable true = if k = .torn then .torn else .settled := by
  cases k <;> rfl

/-- A table command with another subkey ends no key change. -/
@[simp] theorem KeyPort.afterTable_false (k : KeyPort) : k.afterTable false = k := by cases k <;> rfl

/-- LOADH ends a key change exactly where it came before it and OPND is the subkey of the bound key. -/
theorem effectLoadh_keyPort (s : State) : (effectLoadh s).keyPort =
    if s.keyPort = .rebound ∧ s.opnd = Config.cipher s.keyEpoch 0 then .settled else s.keyPort := by
  show s.keyPort.afterTable (subkeyMatches s) = _
  cases s.keyPort <;> simp [KeyPort.afterTable, subkeyMatches]

/-- With the key rebound and no matching subkey loaded since, only the commands of `allowedAfterBinding` are admitted. -/
theorem admitted_write_cmd_unsettled {v : Word} {s : State} (hk : s.keyPort ≠ .settled)
    (h : admitted (.write .w32 0x00 v) s = true) : allowedAfterBinding s.debugMulh v = true := by
  have : s.tv = true ∧ s.keyPort = .settled ∨ allowedAfterBinding s.debugMulh v = true := by
    simp [admitted, tableDuty] at h; exact h.1.2
  exact this.resolve_left fun hs => hk hs.2

@[simp] theorem retireOutcome_next (s : State) : retireOutcome (.next s) = .next (retire s) := rfl

/-- A completion is the decoded command's answer with BUSY cleared, or the illegal completion. -/
theorem complete_of_decode {s : State} {i : Instr} (h : decode s.debugMulh s.pend = .ok i) :
    complete s = retireOutcome (exec i s) := by
  unfold complete; rw [h]

theorem complete_of_illegal {s : State} {e : Illegal} (h : decode s.debugMulh s.pend = .error e) :
    complete s = .next (completeIllegal s) := by
  unfold complete; rw [h]

/-- All that a completion can answer. -/
theorem complete_cases {s t : State} (h : complete s = .next t) :
    (∃ i u, decode s.debugMulh s.pend = .ok i ∧ exec i s = .next u ∧ t = retire u) ∨
      (∃ e, decode s.debugMulh s.pend = .error e ∧ t = retire (setErr .illegal s)) := by
  cases hd : decode s.debugMulh s.pend with
  | error e => rw [complete_of_illegal hd] at h; exact .inr ⟨e, rfl, (Host.Outcome.next.inj h).symm⟩
  | ok i =>
    rw [complete_of_decode hd] at h
    cases hx : exec i s with
    | next u => rw [hx] at h; exact .inl ⟨i, u, rfl, hx, (Host.Outcome.next.inj h).symm⟩
    | fault f => rw [hx] at h; cases h
    | refused r => rw [hx] at h; cases h

/-! ### Bus writes -/

/-- All that a legal write can do: CMD, STATUS, one word of DIN, or nothing. -/
theorem busWrite_cases (off : BitVec 8) (v : Word) (s : State) :
    (off = 0x00 ∧ busWrite off v s = writeCmd v s) ∨ (off = 0x04 ∧ busWrite off v s = writeStatus v s) ∨
      (∃ d, busWrite off v s = { s with din := d }) := by
  unfold busWrite
  split <;> rename_i h
  · exact .inl ⟨BitVec.eq_of_toNat_eq h, rfl⟩
  · exact .inr (.inl ⟨BitVec.eq_of_toNat_eq h, rfl⟩)
  all_goals exact .inr (.inr ⟨_, rfl⟩)

/-- All that a write access can do, besides its reply. -/
theorem hostWrite_cases (w : Width) (off : BitVec 8) (v : Word) (s : State) :
    (w = .w32 ∧ off = 0x00 ∧ hostWrite w off v s = reply ⟨0, false⟩ (writeCmd v s)) ∨
      (w = .w32 ∧ off = 0x04 ∧ hostWrite w off v s = reply ⟨0, false⟩ (writeStatus v s)) ∨
      (∃ d r, hostWrite w off v s = reply r { s with din := d }) := by
  unfold hostWrite
  split
  · rename_i h
    have hw : w = .w32 := by cases w <;> simp_all [accessLegal]
    rcases busWrite_cases off v s with ⟨ho, hb⟩ | ⟨ho, hb⟩ | ⟨d, hb⟩
    · exact .inl ⟨hw, ho, by rw [hb]⟩
    · exact .inr (.inl ⟨hw, ho, by rw [hb]⟩)
    · exact .inr (.inr ⟨d, _, by rw [hb]⟩)
  · exact .inr (.inr ⟨s.din, _, rfl⟩)

/-- A read access changes the replies only. -/
theorem hostRead_reply (w : Width) (off : BitVec 8) (s : State) : ∃ r, hostRead w off s = reply r s := by
  unfold hostRead; split <;> exact ⟨_, rfl⟩

/-! ### Admitted events -/

/-- An admitted CMD write finds the block idle, a table of the bound key unless the command needs none, and its stream
open. -/
theorem admitted_write_cmd {v : Word} {s : State} :
    admitted (.write .w32 0x00 v) s = true ↔ s.busy = false ∧ tableDuty v s = true ∧ streamDuty v s = true := by
  simp [admitted, and_assoc]

/-- An admitted binding of a key never tears it (log 6). -/
theorem admitted_bindKey {s : State} (h : admitted .bindKey s = true) : (bindKey s).keyPort = .rebound := by
  have hb : s.busy = false := by simpa [admitted] using h
  simp [bindKey, hb]

/-! ### Blocks -/

/-- Keeping the first bytes distributes over XOR. -/
theorem pad_xor (a b : Block) (n : Nat) : pad (a ^^^ b) n = pad a n ^^^ pad b n := by
  simp [pad, BitVec.ushiftRight_xor_distrib, BitVec.shiftLeft_xor_distrib]

@[simp] theorem pad_full (b : Block) : pad b 16 = b := by simp [pad]

/-- The block of a keystream command, as one padding. -/
theorem keystreamXor_eq (n : Nat) (civ : Block) (s : State) :
    keystreamXor n civ s = pad (s.opnd ^^^ cipherAnswer s civ) n := (pad_xor _ _ n).symm

end Sys2Proof.Machine
end

