-- ==== Sys2Proof/Laws/PerInstr.lean ====
section
/-! SUPPORT. Facts about every command as syntax, one lemma per constructor: the encoded word of a command whose LEN fits
lies in its row of the opcode table (spec/30_encoding.md R105). -/

namespace Sys2Proof.Laws.RowOfEncoding

open Sys2Proof

/-- The word of a command whose LEN fits matches its row's mask and match value. -/
def Statement (i : Instr) : Prop := i.lenFits = true → encode i &&& i.rowMask = i.rowMatch

/-- LEN lies outside the mask of the rows that have one. -/
theorem lenRow (n op : Nat) (hn : n ≤ 31) (hop : op ≤ 0xB) :
    ((BitVec.ofNat 32 n <<< 8) ||| BitVec.ofNat 32 op) &&& 0xFFFFE0FF = BitVec.ofNat 32 op := by
  interval_cases n <;> interval_cases op <;> rfl

theorem nop : Statement .nop := fun _ => rfl
theorem genh : Statement .genh := fun _ => rfl
theorem loadh : Statement .loadh := fun _ => rfl
theorem mulh : Statement .mulh := fun _ => rfl
theorem ivblk : Statement .ivblk := fun _ => rfl
theorem start (n : Nat) : Statement (.start n) := fun h => lenRow n 0x5 (of_decide_eq_true h) (by decide)
theorem aad (n : Nat) : Statement (.aad n) := fun h => lenRow n 0x6 (of_decide_eq_true h) (by decide)
theorem enc (n : Nat) : Statement (.enc n) := fun h => lenRow n 0x7 (of_decide_eq_true h) (by decide)
theorem dec (n : Nat) : Statement (.dec n) := fun h => lenRow n 0x8 (of_decide_eq_true h) (by decide)
theorem ghashc (n : Nat) : Statement (.ghashc n) := fun h => lenRow n 0x9 (of_decide_eq_true h) (by decide)
theorem finish (n : Nat) : Statement (.finish n) := fun h => lenRow n 0xA (of_decide_eq_true h) (by decide)
theorem check (n : Nat) : Statement (.check n) := fun h => lenRow n 0xB (of_decide_eq_true h) (by decide)

end Sys2Proof.Laws.RowOfEncoding
end

