-- ==== Sys2Proof/Tests/Slice0.lean ====
section
/-! SUPPORT. The row's own tests, with values from spec/95_test_vectors.md and spec/30_encoding.md, and for each statement
with hypotheses a witness: a concrete state and operands that meet them, one for each clause. -/

namespace Sys2Proof.Tests

-- One theorem at a time: each kernel evaluation in a thread of its own would reserve a whole stack.
set_option Elab.async false

open Sys2Proof Sys2Proof.Machine

/-! ### States of the tests -/

/-- The state a command leaves (a command that stopped would leave it as it was). -/
def run (i : Instr) (s : State) : State :=
  match exec i s with
  | .next t => t
  | .fault _ => s
  | .refused _ => s

/-- The state an event leaves. -/
def after (e : HostEvent) (s : State) : State :=
  match perform e s with
  | .next t => t
  | .fault _ => s
  | .refused _ => s

/-- The state a step leaves. -/
def stepped (s : State) : State :=
  match step s with
  | .next t => t
  | .fault _ => s
  | .refused _ => s

/-- The subkey of the zero AES-128 key, 95_test_vectors.md, Conventions. -/
def subkey0 : Block := 0x66e94bd4ef8a2c3b884cfa59ca342b2e

/-- The subkey of the key K3, 95_test_vectors.md, Conventions. -/
def subkey3 : Block := 0xb83b533708bf535d0aa6e52980d53b78

/-- The first ciphertext block of V-N2. -/
def block2 : Block := 0x0388dace60b6a392f328c2b971b2fe78

/-- IDLE with a subkey loaded. -/
def loaded (h : Block) : State := { State.reset with h := h, m := genTable h, tv := true }

/-- STARTED, as V-N2 right after `START 12`. -/
def begun : State :=
  { loaded subkey0 with sess := .started, civ := 1, gctr0 := 0x58e2fccefa7e3061367f1d57a4e7455a }

/-- STARTED, as V-N2 after its `ENC 16` (95_test_vectors.md, section 7). -/
def mid : State :=
  { begun with
    civ := 2, acc := 0x5e2ec746917062882c85b0685353deb7, dout := block2, lenC := 16, blkCnt := 1
    aphc := true, dmode := .enc }

/-- IVLOAD with a given IVLEN. -/
def ivAt (n : BitVec 64) : State := { loaded subkey0 with sess := .ivload, ivLen := n }

/-- A command word in flight. -/
def flying (w : Word) (s : State) : State := { s with busy := true, pend := w }

/-- The full tag of V-N2. -/
def tag2 : Block := 0xab6e47d42cec13bdf53a67b21257bddf

/-! ### Well-formedness: what the checks refuse -/

/-- 30_encoding.md R109: n > 31 is refused. -/
theorem test_wf_refuses_len_32 : (Instr.start 32).wellFormed true = false := by decide

/-- 40_gf128_table.md R146: no MULH with DEBUG_MULH = 0. -/
theorem test_wf_refuses_absent_mulh : Instr.mulh.wellFormed false = false := by decide

theorem test_wf_accepts : (Instr.check 31).wellFormed false = true ∧ Instr.mulh.wellFormed true = true := by decide

/-! ### Decoding: the words of 30_encoding.md R105, R109 and V-E1, V-E2 -/

theorem test_decode_class_n :
    decode false 0x00000000 = .ok .nop ∧ decode false 0x00000001 = .ok .genh ∧ decode false 0x00000002 = .ok .loadh ∧
    decode true 0x00000003 = .ok .mulh ∧ decode false 0x00000004 = .ok .ivblk := by decide

/-- LEN in bits 12:8, OP in bits 3:0, written out bit by bit. -/
theorem test_decode_with_len :
    decode false 0b01100_0000_0101 = .ok (.start 12) ∧ decode false 0b00100_0000_0110 = .ok (.aad 4) ∧
    decode false 0b10000_0000_0111 = .ok (.enc 16) ∧ decode false 0b01100_0000_1000 = .ok (.dec 12) ∧
    decode false 0b00001_0000_1001 = .ok (.ghashc 1) ∧ decode false 0b10001_0000_1010 = .ok (.finish 17) ∧
    decode false 0b10000_0000_1011 = .ok (.check 16) ∧ decode false 0b11111_0000_0101 = .ok (.start 31) := by decide

/-- V-E1 and V-M9, V-M10. -/
theorem test_decode_illegal :
    decode true 0x00001004 = .error .lengthOnClassN ∧ decode true 0x00000100 = .error .lengthOnClassN ∧
    decode true 0x0000000C = .error .reservedOpcode ∧ decode true 0x0000000F = .error .reservedOpcode ∧
    decode true 0x00000010 = .error .reservedBits ∧ decode true 0x00002005 = .error .reservedBits ∧
    decode true 0x80000000 = .error .reservedBits ∧ decode true 0x00000103 = .error .lengthOnClassN ∧
    decode false 0x00000003 = .error .mulhAbsent := by decide

/-- V-E2. -/
theorem test_encode_spelled_words :
    encode (.start 12) = 0x00000C05 ∧ encode (.enc 16) = 0x00001007 ∧ encode (.aad 4) = 0x00000406 ∧
    encode (.finish 16) = 0x0000100A ∧ encode (.check 16) = 0x0000100B ∧ encode (.dec 12) = 0x00000C08 ∧
    encode (.ghashc 1) = 0x00000109 ∧ encode .mulh = 0x00000003 := by decide

/-! ### The field and the helpers -/

/-- V-F1: x times x^127 is x^128 reduced. -/
theorem test_gfmul_reduces : gfmul 0x40000000000000000000000000000000 1 = reductionR := by decide +kernel

/-- V-F1, fourth row, by the table. -/
theorem test_mulH_K3 : mulH (genTable subkey3) block2 = 0xb0c5c7f9ffd9cff30a8f036f9857c725 := by decide +kernel

/-- V-F2. -/
theorem test_mulx_mulx4 : mulx subkey0 = 0x3374a5ea77c5161dc4267d2ce51a1597 ∧ mulx 1 = reductionR ∧
    mulx4 1 = 0x1c200000000000000000000000000000 ∧ mulx4 0xf = 0xb5e00000000000000000000000000000 := by decide +kernel

/-- V-F3. -/
theorem test_nib : nib 0x80000000000000000000000000000000 0 = 1 ∧ nib 0x10000000000000000000000000000000 0 = 8 ∧
    nib 0x0f000000000000000000000000000000 1 = 15 := by decide +kernel

/-- V-T1. -/
theorem test_table : tableAt (genTable subkey0) 6 = 0xcbcef71f4c279d13263543ba97971f5c ∧
    tableAt (genTable subkey0) 9 = 0xfbb462ae727b69bcf9456512f372ae4b ∧
    tableAt (genTable subkey0) 15 = 0x307a95b13e5cf4afdf7026a864e5b117 := by decide +kernel

/-- V-H1 and V-H2. -/
theorem test_pad_and_lengthBlock : pad 0xabaddad2ffffffffffffffffffffffff 4 = 0xabaddad2000000000000000000000000 ∧
    lengthBlock 20 60 = 0x00000000000000a000000000000001e0 ∧
    lengthBlock (2 ^ 61 - 1) (16 * (2 ^ 32 - 2)) = 0xfffffffffffffff80000007fffffff00 := by decide +kernel

/-- V-H3. -/
theorem test_inc32_wraps : inc32 0x000102030405060708090a0bffffffff = 0x000102030405060708090a0b00000000 ∧
    inc32 0xffffffffffffffffffffffffffffffff = 0xffffffffffffffffffffffff00000000 := by decide +kernel

/-- V-J3: the fast path is not the general path. -/
theorem test_general_path_of_a_12_byte_iv :
    ghash (genTable subkey0) [] (List.replicate 12 0) = 0x9bacb907a5fbe45aeed80e0c96791b73 := by decide +kernel

/-! ### The commands -/

theorem test_nop : (run .nop { mid with err := .state }).err = .ok := by decide

/-- V-K1: the state after GENH, from reset. -/
theorem test_genh : statusWord (run .genh State.reset) = 0x00000410 ∧ (run .genh mid).lenC = 0 := by decide +kernel

/-- V-T2 and V-T1: LOADH. -/
theorem test_loadh : statusWord (run .loadh { mid with opnd := subkey0 }) = 0x00000410 ∧
    tableAt (run .loadh { State.reset with opnd := subkey0 }).m 8 = 0x9d5d297a9df1458771099f4b39468565 := by
  decide +kernel

/-- V-M3 and V-M6: MULH keeps the session. -/
theorem test_mulh : (run .mulh { loaded subkey0 with opnd := 1 }).dout = 0x52a4dcb814e54ae1b2d2402fdc6eb849 ∧
    (run .mulh { mid with opnd := block2 }) = { mid with opnd := block2, dout := 0x5e2ec746917062882c85b0685353deb7 } := by
  decide +kernel

/-- V-I1: the first block of IV6. -/
theorem test_ivblk :
    (run .ivblk { loaded subkey3 with opnd := 0x9313225df88406e555909c5aff5269aa }).acc
      = 0x004d6599d7fb1634756e1e299d81630f ∧
    (run .ivblk { loaded subkey3 with opnd := 0x9313225df88406e555909c5aff5269aa }).ivLen = 16 := by decide +kernel

/-- V-I3: the IV limit. -/
theorem test_ivblk_limit : statusWord (run .ivblk (ivAt 0x1FFFFFFFFFFFFFF0)) = 0x00000478 ∧
    (run .ivblk (ivAt 0x1FFFFFFFFFFFFFE0)).ivLen = 0x1FFFFFFFFFFFFFF0 := by decide +kernel

/-- V-J1, third row: bytes 12 to 15 of DIN are ignored. -/
theorem test_start_fast_path : (run (.start 12) { loaded subkey0 with opnd := 0xcafebabefacedbaddecaf888ffffffff }).civ
    = 0xcafebabefacedbaddecaf88800000001 := by decide +kernel

/-- V-J2, last row: a 28-byte IV, whose last 12 bytes do not take the fast path. -/
theorem test_start_general_path :
    (run (.start 12) { run .ivblk { loaded subkey3 with opnd := 0x000102030405060708090a0b0c0d0e0f } with
      opnd := 0x101112131415161718191a1b00000000 }).civ = 0xd9598ddfbe7ef2cbd0d00c6c78db1eec := by decide +kernel

/-- V-L3: the AAD limit. -/
theorem test_aad_limit : (run (.aad 4) { begun with lenA := 0x1FFFFFFFFFFFFFFC }).sess = .fault ∧
    (run (.aad 4) { begun with lenA := 0x1FFFFFFFFFFFFFFB }).lenA = 0x1FFFFFFFFFFFFFFF ∧
    (run (.aad 4) { begun with lenA := 0x1FFFFFFFFFFFFFFB }).aphc = true := by decide +kernel

/-- V-S4, rows 1 and 4. -/
theorem test_aad_phases : run (.aad 0) begun = begun ∧ (run (.aad 4) (run (.aad 4) begun)).err = .state := by
  decide +kernel

/-- V-S3, for a cipher that answers as AES-128 under the zero key does. -/
theorem test_enc_partial (hE : Config.cipher 0 2 = block2) :
    (run (.enc 5) { begun with opnd := 0x0102030405ffffffffffffffffffffff }).dout = 0x028ad9ca650000000000000000000000 ∧
    (run (.enc 5) { begun with opnd := 0x0102030405ffffffffffffffffffffff }).acc = 0x692152325391c5dc24f1a5287e6ad202 := by
  have h : cipherAnswer { begun with opnd := 0x0102030405ffffffffffffffffffffff } (inc32 1) = block2 := hE
  constructor
  · show keystreamXor 5 (inc32 1) _ = _
    unfold keystreamXor; rw [h]; decide +kernel
  · show fold (genTable subkey0) 0 (keystreamXor 5 (inc32 1) _) = _
    unfold keystreamXor; rw [h]; decide +kernel

/-- V-L1 and V-L2: the block limit. -/
theorem test_enc_block_limit : statusWord (run (.enc 16) { mid with blkCnt := 4294967294 }) = 0x00000478 ∧
    (run (.enc 16) { mid with blkCnt := 4294967293 }).blkCnt = 4294967294 := by decide +kernel

/-- V-S6: DEC folds its input. -/
theorem test_dec : (run (.dec 16) { begun with opnd := block2 }).acc = 0x5e2ec746917062882c85b0685353deb7 ∧
    (run (.dec 16) { begun with opnd := block2 }).civ = 2 := by decide +kernel

/-- V-S6: GHASHC folds its input and keeps CIV and DOUT. -/
theorem test_ghashc : run (.ghashc 16) { begun with opnd := block2 } =
    { begun with opnd := block2, acc := 0x5e2ec746917062882c85b0685353deb7, lenC := 16, blkCnt := 1, aphc := true,
                 dmode := .hash } := by decide +kernel

/-- V-G1 and V-G3. -/
theorem test_finish : (run (.finish 16) mid).dout = tag2 ∧ (run (.finish 4) mid).dout
      = 0xab6e47d4000000000000000000000000 ∧ (run (.finish 4) mid).acc = 0xf38cbb1ad69223dcc3457ae5b6b0f885 := by
  decide +kernel

/-- V-G8: lengths outside 4 to 16 change only ERR. -/
theorem test_finish_lengths : run (.finish 3) mid = { mid with err := .param } ∧
    run (.finish 17) mid = { mid with err := .param } := by decide +kernel

/-- V-G4 and V-G7a. -/
theorem test_check_match : statusWord (run (.check 8) { mid with opnd := 0xab6e47d42cec13bd0000000000000000 }) = 0x00000516 ∧
    (run (.check 4) { mid with opnd := 0xab6e47d4ffffffffffffffffffffffff }).authOk = true := by decide +kernel

/-- V-G5 and V-G6b. -/
theorem test_check_mismatch :
    statusWord (run (.check 8) { mid with opnd := 0xab6e47d42cec13bc0000000000000000 }) = 0x000004B6 ∧
    (run (.check 16) { mid with opnd := 0xab6e47d42cec13bdf53a67b21257bd5f }).dout = 0 := by decide +kernel

/-! ### Errors, the bus and reset -/

/-- V-E3: the priority of the codes. -/
theorem test_priority : (run (.start 0) State.reset).err = .state ∧ (run (.check 3) (loaded subkey0)).err = .state ∧
    (run (.enc 17) { begun with dmode := .dec, aphc := true }).err = .state ∧
    (run (.start 17) (ivAt 0x1FFFFFFFFFFFFFF0)).err = .param := by decide +kernel

/-- V-R1: reads after reset. -/
theorem test_reset_reads : busRead 0x04 State.reset = 0x00000400 ∧ busRead 0x00 State.reset = 0 ∧
    busRead 0x2C State.reset = 0 ∧ busRead 0x40 State.reset = 0 := by decide

/-- V-R2: STATUS while GENH is in flight, and after it. -/
theorem test_status_while_busy : statusWord (after (.write .w32 0x00 0x00000001) State.reset) = 0x00000401 ∧
    statusWord (after .blockTurn (after (.write .w32 0x00 0x00000001) State.reset)) = 0x00000410 := by decide +kernel

/-- V-R3: overrun, and how OVR is cleared. -/
theorem test_overrun :
    statusWord (stepped { State.reset with busy := true, pend := 1, ovr := true }) = 0x00000610 ∧
    (after (.write .w32 0x04 0x00000200) { State.reset with ovr := true }).ovr = false ∧
    (after (.write .w32 0x04 0xFFFFFDFF) { State.reset with ovr := true }).ovr = true := by decide +kernel

/-- The packing of 20_memory.md R73, and R78's error response. -/
theorem test_din_packing : (after (.write .w32 0x14 0xDEADBEEF) State.reset).din = 0x00000000deadbeef0000000000000000 ∧
    (after (.write .w32 0x16 0xDEADBEEF) State.reset).replies = [⟨0, true⟩] := by decide +kernel

/-- A placed word is what the next step runs. -/
theorem test_withFetchWord : (stepped (State.reset.withFetchWord 32 0x00000C05)).err = .state ∧
    (stepped (State.reset.withFetchWord 32 0x0000000C)).err = .illegal := by decide +kernel

/-! ### Host sequences -/

/-- The state a host program leaves. -/
def ends {α : Type} (p : HostProg α) (s : State) : State :=
  match p s with
  | .next (_, t) => t
  | .fault _ => s
  | .refused _ => s

/-- IV6 of 95_test_vectors.md. -/
def iv6 : List Byte :=
  [0x93, 0x13, 0x22, 0x5d, 0xf8, 0x84, 0x06, 0xe5, 0x55, 0x90, 0x9c, 0x5a, 0xff, 0x52, 0x69, 0xaa,
   0x6a, 0x7a, 0x95, 0x38, 0x53, 0x4f, 0x7d, 0xa1, 0xe4, 0xc3, 0x03, 0xd2, 0xa3, 0x18, 0xa7, 0x28] ++
  [0xc3, 0xc0, 0xc9, 0x51, 0x56, 0x80, 0x95, 0x39, 0xfc, 0xf0, 0xe2, 0x42, 0x9a, 0x6b, 0x52, 0x54,
   0x16, 0xae, 0xdb, 0xf5, 0xa0, 0xde, 0x6a, 0x57, 0xa6, 0x37, 0xb3, 0x9b]

/-- V-J2, second row (program P4): `ivstart` of a 60-byte IV, with one STATUS read that sees BUSY. -/
theorem test_ivstart : (ends (ivstart 1 iv6) (loaded subkey3)).civ = 0x3bab75780a31c059f83d2a44752f9864 := by
  decide +kernel

/-- 44_facade.md R280: the pieces of a string of 17 bytes, and of none. -/
theorem test_chunks : (chunks (List.replicate 17 0x5A)).map List.length = [16, 1] ∧ chunks [] = [] := by decide +kernel

/-- Does the outcome go on? -/
def goes {α : Type} (o : Host.Outcome α Fault Refusal) : Bool :=
  match o with
  | .next _ => true
  | .fault _ => false
  | .refused _ => false

theorem ran {i : Instr} {s : State} (h : goes (exec i s) = true) : exec i s = .next (run i s) := by
  unfold run; cases hx : exec i s <;> simp_all [goes]

theorem performed {e : HostEvent} {s : State} (h : goes (perform e s) = true) : perform e s = .next (after e s) := by
  unfold after; cases hx : perform e s <;> simp_all [goes]

theorem made {s : State} (h : goes (step s) = true) : step s = .next (stepped s) := by
  unfold stepped; cases hx : step s <;> simp_all [goes]

/-- 44_facade.md R285: `put` of 17 bytes is four DIN writes, one CMD write and the STATUS reads of `wait`, and for ENC four
reads of DOUT more; AAD emits nothing. -/
theorem test_put_accesses :
    (ends (put 0 .aad false [] (List.replicate 17 0x5A)) begun).replies.length = 6 ∧
    (ends (put 0 .enc true [] (List.replicate 17 0x5A)) begun).replies.length = 10 ∧
    (ends (put 0 .aad false [] (List.replicate 17 0x5A)) begun).lenA = 16 := by decide +kernel

/-- Another block, beside any. -/
theorem xor_one_ne (b : Block) : b ^^^ 1 ≠ b := by
  intro h
  have := congrArg (b ^^^ ·) h
  simp at this

/-- 70_reset_and_hazards.md R351: after a key change, LOADH with the matching H ends it and another LOADH does not; without
a key change (95_test_vectors.md V-S2) no LOADH opens one. -/
theorem test_loadh_matching :
    let s : State := { mid with keyPort := .rebound }
    (run .loadh { s with opnd := Config.cipher s.keyEpoch 0 }).keyPort = .settled ∧
    (run .loadh { s with opnd := Config.cipher s.keyEpoch 0 ^^^ 1 }).keyPort = .rebound ∧
    (run .loadh { mid with opnd := 0x80000000000000000000000000000000 }).keyPort = .settled := by
  refine ⟨?_, ?_, by decide +kernel⟩
  · exact (effectLoadh_keyPort _).trans (if_pos ⟨rfl, rfl⟩)
  · exact (effectLoadh_keyPort _).trans (if_neg fun h => xor_one_ne _ h.2)

/-- 44_facade.md R285: `end_stream` of a GHASHC stream sends the remainder and reads no DOUT. -/
theorem test_endStream_accesses :
    (ends (endStream 0 .ghashc false [0x5A]) begun).replies.length = 6 ∧
    (ends (endStream 0 .ghashc false [0x5A]) begun).dclosed = true ∧
    ends (endStream 0 .ghashc false []) begun = begun := by decide +kernel

/-- 70_reset_and_hazards.md R355: H3 (results read during BUSY, against H11), H2 (no table yet), H9 (AAD after data, data
after a partial chunk). -/
theorem test_admitted_duties :
    (admitted (.read .w32 0x20) (flying 1 mid) = false ∧ admitted (.read .w32 0x40) (flying 1 mid) = false ∧
      admitted (.read .w32 0x04) (flying 1 mid) = true ∧ admitted (.read .w32 0x20) mid = true) ∧
    (admitted (.write .w32 0x00 0x00000C05) State.reset = false ∧ admitted (.write .w32 0x00 0x00000001) State.reset = true) ∧
    (admitted (.write .w32 0x00 0x00000406) mid = false ∧ admitted (.write .w32 0x00 0x00001007) mid = true ∧
      admitted (.write .w32 0x00 0x00001007) { mid with dclosed := true } = false) := by decide +kernel

/-! ### Witnesses: states and operands that meet the hypotheses of each statement -/

theorem witness_StepPerformsTheFirstEvent :
    ({ mid with host := [.blockTurn] } : State).host = .blockTurn :: [] ∧
    (mid.host = [] ∧ mid.busy = false) ∧ ((flying 1 mid).host = [] ∧ (flying 1 mid).busy = true) := by decide +kernel

theorem witness_StepRunsTheDecodedCommand :
    ((flying 0x1007 mid).host = [] ∧ (flying 0x1007 mid).busy = true ∧
      decode (flying 0x1007 mid).debugMulh (flying 0x1007 mid).pend = .ok (.enc 16)) ∧
    (let s : State := { flying 0x3 mid with host := [.blockTurn, .reset] };
      s.host = .blockTurn :: [.reset] ∧ s.busy = true ∧ decode s.debugMulh s.pend = .ok .mulh) ∧
    (Instr.check 31).wellFormed State.reset.debugMulh = true ∧ (Instr.start 0).wellFormed mid.debugMulh = true := by
  decide +kernel

theorem witness_AcceptanceLatchesWordAndOperand :
    mid.busy = false ∧ decode mid.debugMulh 0x0000000C = .error .reservedOpcode ∧
    perform (.write .w32 0x00 0x0000000C) mid = .next (after (.write .w32 0x00 0x0000000C) mid) ∧
    perform .blockTurn (after (.write .w32 0x00 0x0000000C) mid) =
      .next (after .blockTurn (after (.write .w32 0x00 0x0000000C) mid)) :=
  ⟨by decide +kernel, by decide, performed (by decide +kernel), performed (by decide +kernel)⟩

/-- `OnlyWord` speaks of words that exist. -/
theorem witness_OnlyWord : (0x00000100 : Word) &&& 0xF = 0x0 ∧ (0x00000100 : Word) ≠ 0x0 ∧
    (0x80000004 : Word) &&& 0xF = 0x4 ∧ (0x80000004 : Word) ≠ 0x4 := by decide

theorem witness_OverrunDropsTheWord :
    (flying 1 mid).busy = true ∧
    perform .blockTurn (flying 1 mid) = .next (after .blockTurn (flying 1 mid)) ∧
    (let s : State := { mid with ovr := true };
      perform (.write .w32 0x04 0x200) s = .next (after (.write .w32 0x04 0x200) s) ∧ s.ovr = true ∧
      (after (.write .w32 0x04 0x200) s).ovr = false) ∧
    (let s : State := { mid with ovr := true };
      perform .reset s = .next (after .reset s) ∧ s.ovr = true ∧ (after .reset s).ovr = false) :=
  ⟨by decide +kernel, performed (by decide +kernel), ⟨performed (by decide +kernel), by decide +kernel⟩, ⟨performed (by decide +kernel), by decide +kernel⟩⟩

theorem witness_OverrunFlagChangesOnlyAsSaid :
    perform (.write .w32 0x00 5) (flying 1 mid) = .next (after (.write .w32 0x00 5) (flying 1 mid)) ∧
    perform (.write .w32 0x04 0x200) mid = .next (after (.write .w32 0x04 0x200) mid) ∧
    perform .reset mid = .next (after .reset mid) ∧
    (perform (.read .w32 0x04) mid = .next (after (.read .w32 0x04) mid) ∧
      (∀ w : Word, HostEvent.read .w32 0x04 ≠ .write .w32 0x00 w) ∧
      (∀ v : Word, HostEvent.read .w32 0x04 ≠ .write .w32 0x04 v) ∧ HostEvent.read .w32 0x04 ≠ .reset) :=
  ⟨performed (by decide +kernel), performed (by decide +kernel), performed (by decide +kernel), performed (by decide +kernel), nofun, nofun, nofun⟩

/-- Each kind of illegal word, and a legal one. -/
theorem witness_IllegalIsReportedForExactlyTheListedWords :
    (flying 0x00002000 mid).busy = true ∧ (after .blockTurn (flying 0x00002000 mid)).err = .illegal ∧
    (after .blockTurn (flying 0x00000080 mid)).err = .illegal ∧ (after .blockTurn (flying 0x0000000C mid)).err = .illegal ∧
    (after .blockTurn (flying 0x00000104 mid)).err = .illegal ∧
    (after .blockTurn (flying 0x00000003 { mid with debugMulh := false })).err = .illegal ∧
    (after .blockTurn (flying 0x00000105 mid)).err = .ok ∧ (after .blockTurn (flying 0x0000000B mid)).err = .param := by
  decide +kernel

theorem witness_StatusFieldsAndWrite : perform .reset mid = .next (after .reset mid) := rfl

theorem witness_BlockWordsArePackedMostSignificantFirst : (0 : Nat) ≤ 15 ∧ 15 ≤ 15 := by decide

theorem witness_OtherOffsetsReadAndIgnoreWrites :
    (0x44 ≤ (0x44 : BitVec 8).toNat ∧ 0x44 ≤ (0xFF : BitVec 8).toNat) ∧
    (((0x00 : BitVec 8).toNat % 4 = 0) ∧ ((0xFC : BitVec 8).toNat % 4 = 0)) ∧
    ((0x08 : BitVec 8).toNat % 4 = 0 ∧ (0x08 : BitVec 8) ≠ 0x00 ∧ (0x08 : BitVec 8) ≠ 0x04 ∧ (0x08 : BitVec 8) ≠ 0x10 ∧
      (0x08 : BitVec 8) ≠ 0x14 ∧ (0x08 : BitVec 8) ≠ 0x18 ∧ (0x08 : BitVec 8) ≠ 0x1C) ∧
    ((0x20 : BitVec 8).toNat % 4 = 0 ∧ (0x20 : BitVec 8) ≠ 0x00 ∧ (0x20 : BitVec 8) ≠ 0x04 ∧ (0x20 : BitVec 8) ≠ 0x10 ∧
      (0x20 : BitVec 8) ≠ 0x14 ∧ (0x20 : BitVec 8) ≠ 0x18 ∧ (0x20 : BitVec 8) ≠ 0x1C) := by decide

theorem witness_BadAccessChangesNothing :
    (Width.w8 ≠ .w32 ∨ (0x00 : BitVec 8).toNat % 4 ≠ 0) ∧ (Width.w64 ≠ .w32 ∨ (0x10 : BitVec 8).toNat % 4 ≠ 0) ∧
    (Width.w32 ≠ .w32 ∨ (0x01 : BitVec 8).toNat % 4 ≠ 0) ∧ (Width.w32 ≠ .w32 ∨ (0xFF : BitVec 8).toNat % 4 ≠ 0) := by
  decide

theorem witness_DinWriteAffectsOnlyTheNextCommand :
    ((0 : Nat) ≤ 3 ∧ 3 ≤ 3) ∧
    ((flying 0x1007 mid).busy = true ∧
      perform .blockTurn (flying 0x1007 mid) = .next (after .blockTurn (flying 0x1007 mid))) ∧
    (mid.busy = false ∧ perform (.write .w32 0x00 1) mid = .next (after (.write .w32 0x00 1) mid)) :=
  ⟨by decide, ⟨by decide +kernel, performed (by decide +kernel)⟩, by decide +kernel, performed (by decide +kernel)⟩

theorem witness_ReadsWhileBusySeeOldValues :
    (mid.busy = false ∧ perform (.write .w32 0x00 0x100A) mid = .next (after (.write .w32 0x00 0x100A) mid) ∧
      (0x00 : BitVec 8) ≠ 0x04 ∧ (0x20 : BitVec 8) ≠ 0x04) ∧
    (let s : State := flying 0x100A mid;
      s.busy = true ∧ perform (.write .w32 0x1C 7) s = .next (after (.write .w32 0x1C 7) s) ∧
      perform (.write .w32 0x00 7) s = .next (after (.write .w32 0x00 7) s)) ∧
    (HostEvent.write .w32 0x1C 7 ≠ .blockTurn ∧ HostEvent.write .w32 0x1C 7 ≠ .reset) ∧
    ((0x0F : BitVec 8).toNat < 0x10 ∧ 0x20 ≤ (0x20 : BitVec 8).toNat) ∧
    (∀ (k : Nat) (v : Word), k ≤ 3 → HostEvent.write .w32 0x00 7 ≠ .write .w32 (BitVec.ofNat 8 (0x10 + 4 * k)) v) := by
  refine ⟨⟨by decide +kernel, performed (by decide +kernel), by decide, by decide⟩,
    ⟨by decide +kernel, performed (by decide +kernel), performed (by decide +kernel)⟩, by decide, by decide, ?_⟩
  intro k v hk he
  interval_cases k <;> exact absurd (HostEvent.write.inj he).2.1 (by decide)

/-- Two states that differ in internal registers only. -/
theorem witness_BusReadsSeeOnlyVisibleRegisters :
    SameVisible mid { mid with h := 1, acc := 2, gctr0 := 3, civ := 4, opnd := 5, pend := 6 } ∧
    mid ≠ { mid with h := 1, acc := 2, gctr0 := 3, civ := 4, opnd := 5, pend := 6 } :=
  ⟨⟨rfl, rfl, rfl, rfl, rfl, rfl, rfl, rfl, rfl, rfl, rfl, rfl⟩, by decide +kernel⟩

theorem witness_CounterIncrementAndLengthBlock : 0 ≤ Config.lenLimit ∧ 2 ^ 61 - 1 ≤ Config.lenLimit := by decide

theorem witness_PaddingZeroesTheTail : (1 ≤ 1 ∧ 1 ≤ 16 ∧ 0 ≤ 15) ∧ (1 ≤ 16 ∧ 16 ≤ 16 ∧ 15 ≤ 15) := by decide

theorem witness_GenhBuildsTheTableFromTheCipher :
    mid.keyPort ≠ .torn ∧ ({ mid with keyPort := .rebound } : State).keyPort ≠ .torn := by decide +kernel

theorem witness_MulhMultipliesTheOperandByH :
    (mid.debugMulh = true ∧ mid.tv = true) ∧ (State.reset.debugMulh = true ∧ State.reset.tv = false) ∧
    ({ mid with debugMulh := false } : State).debugMulh = false := by decide +kernel

theorem witness_IvblkFoldsOneIvBlock :
    ((ivAt 0x1FFFFFFFFFFFFFEF).tv = true ∧ (ivAt 0x1FFFFFFFFFFFFFEF).keyPort = .settled ∧
      (ivAt 0x1FFFFFFFFFFFFFEF).sess = .ivload ∧ (ivAt 0x1FFFFFFFFFFFFFEF).ivLen.toNat + 16 ≤ 2 ^ 61 - 1) ∧
    (mid.tv = true ∧ mid.keyPort = .settled ∧ mid.sess ≠ .ivload) ∧
    ((ivAt 0x1FFFFFFFFFFFFFF0).tv = true ∧ (ivAt 0x1FFFFFFFFFFFFFF0).sess = .ivload ∧
      2 ^ 61 - 1 < (ivAt 0x1FFFFFFFFFFFFFF0).ivLen.toNat + 16) ∧
    State.reset.tv = false := by decide +kernel

theorem witness_StartDerivesJ0AndOpensTheSession :
    ((0 : Nat) ≤ 31 ∧ 31 ≤ 31) ∧
    (mid.tv = true ∧ mid.keyPort = .settled ∧ mid.sess ≠ .ivload) ∧
    ((1 ≤ 1 ∧ 1 ≤ 16 ∧ 1 ≠ 12) ∧ (1 ≤ 16 ∧ 16 ≤ 16 ∧ 16 ≠ 12)) ∧
    ((ivAt 0x1FFFFFFFFFFFFFEF).tv = true ∧ (ivAt 0x1FFFFFFFFFFFFFEF).keyPort = .settled ∧
      (ivAt 0x1FFFFFFFFFFFFFEF).sess = .ivload ∧ (ivAt 0x1FFFFFFFFFFFFFEF).ivLen.toNat + 16 ≤ 2 ^ 61 - 1 ∧
      (ivAt 0x1FFFFFFFFFFFFFFF).ivLen.toNat ≤ 2 ^ 61 - 1) ∧
    State.reset.tv = false ∧
    ((16 < 17 ∨ (17 = 0 ∧ mid.sess ≠ .ivload)) ∧ (16 < 0 ∨ (0 = 0 ∧ mid.sess ≠ .ivload))) ∧
    ((ivAt 0x1FFFFFFFFFFFFFF0).sess = .ivload ∧ 16 ≤ 16 ∧ 2 ^ 61 - 1 < (ivAt 0x1FFFFFFFFFFFFFF0).ivLen.toNat + 16) := by
  decide +kernel

theorem witness_AadFoldsOneChunk :
    (begun.sess = .started ∧ begun.dmode = .none ∧ begun.aphc = false ∧ begun.keyPort = .settled) ∧
    ({ begun with lenA := 0x1FFFFFFFFFFFFFEF } : State).lenA.toNat + 16 ≤ 2 ^ 61 - 1 ∧
    ((loaded subkey0).sess ≠ .started ∧ mid.dmode ≠ .none ∧ ({ begun with aphc := true } : State).aphc = true) ∧
    2 ^ 61 - 1 < ({ begun with lenA := 0x1FFFFFFFFFFFFFF0 } : State).lenA.toNat + 16 := by decide +kernel

theorem witness_EncEncryptsOneChunk :
    (DataOpen .enc begun ∧ begun.keyPort = .settled ∧ 1 ≤ 16 ∧ 16 ≤ 16) ∧ DataOpen .enc mid ∧
    (DataOpen .enc { mid with blkCnt := 4294967293 } ∧
      ({ mid with blkCnt := 4294967293 } : State).blkCnt.toNat + 1 ≤ 2 ^ 32 - 2) ∧
    (¬ DataOpen .enc (loaded subkey0) ∧ ¬ DataOpen .enc { mid with dmode := .dec } ∧
      ¬ DataOpen .enc { mid with dclosed := true }) ∧
    2 ^ 32 - 2 < ({ mid with blkCnt := 4294967294 } : State).blkCnt.toNat + 1 := by
  unfold DataOpen; decide +kernel

theorem witness_DecDecryptsOneChunk :
    (DataOpen .dec begun ∧ begun.keyPort = .settled) ∧ DataOpen .dec { mid with dmode := .dec } ∧
    ({ begun with blkCnt := 4294967293 } : State).blkCnt.toNat + 1 ≤ 2 ^ 32 - 2 ∧
    (¬ DataOpen .dec mid ∧ ¬ DataOpen .dec { begun with dclosed := true }) ∧
    2 ^ 32 - 2 < ({ begun with blkCnt := 4294967294 } : State).blkCnt.toNat + 1 := by
  unfold DataOpen; decide +kernel

theorem witness_GhashcFoldsOneCiphertextChunk :
    (DataOpen .hash begun ∧ begun.keyPort = .settled) ∧ DataOpen .hash { mid with dmode := .hash } ∧
    ({ begun with blkCnt := 4294967293 } : State).blkCnt.toNat + 1 ≤ 2 ^ 32 - 2 ∧
    (¬ DataOpen .hash mid ∧ ¬ DataOpen .hash State.reset) ∧
    2 ^ 32 - 2 < ({ begun with blkCnt := 4294967294 } : State).blkCnt.toNat + 1 := by
  unfold DataOpen; decide +kernel

theorem witness_FinishProducesTheTag :
    (mid.sess = .started ∧ 4 ≤ 4 ∧ 4 ≤ 16 ∧ 4 ≤ 16 ∧ 16 ≤ 16) ∧ (loaded subkey0).sess ≠ .started ∧
    ((3 < 4 ∨ 16 < 3) ∧ (17 < 4 ∨ 16 < 17)) := by decide +kernel

theorem witness_CheckVerifiesTheTag :
    (mid.sess = .started ∧ bytesOf 16 (SessionTag { mid with opnd := tag2 }) = bytesOf 16 tag2 ∧
      bytesOf 4 (SessionTag { mid with opnd := tag2 }) = bytesOf 4 tag2) ∧
    (bytesOf 16 (SessionTag mid) ≠ bytesOf 16 mid.opnd ∧ bytesOf 4 (SessionTag mid) ≠ bytesOf 4 mid.opnd) ∧
    State.reset.sess ≠ .started ∧ ((3 < 4 ∨ 16 < 3) ∧ (17 < 4 ∨ 16 < 17)) := by decide +kernel

theorem witness_UnsettledKeyAnswersAreFree :
    ({ mid with keyPort := .torn } : State).keyPort = .torn ∧
    (let s : State := { ivAt 0x1FFFFFFFFFFFFFEF with keyPort := .rebound };
      s.keyPort ≠ .settled ∧ s.tv = true ∧ s.sess = .ivload ∧ s.ivLen.toNat + 16 ≤ 2 ^ 61 - 1) ∧
    (let s : State := { mid with keyPort := .rebound };
      s.keyPort ≠ .settled ∧ s.tv = true ∧ s.sess ≠ .ivload ∧ (12 = 0 → s.sess = .ivload) ∧
      (s.sess = .ivload → s.ivLen.toNat + 12 ≤ 2 ^ 61 - 1) ∧ ¬ (16 = 12 ∧ s.sess ≠ .ivload)) ∧
    (let s : State := { begun with keyPort := .rebound };
      s.keyPort ≠ .settled ∧ s.sess = .started ∧ s.dmode = .none ∧ s.aphc = false ∧ s.lenA.toNat + 16 ≤ 2 ^ 61 - 1) ∧
    (let s : State := { mid with keyPort := .rebound, blkCnt := 4294967293 };
      s.keyPort ≠ .settled ∧ DataOpen .enc s ∧ s.blkCnt.toNat + 1 ≤ 2 ^ 32 - 2) ∧
    (let s : State := { begun with keyPort := .torn };
      s.keyPort ≠ .settled ∧ DataOpen .dec s ∧ DataOpen .hash s ∧ s.blkCnt.toNat + 1 ≤ 2 ^ 32 - 2) := by
  unfold DataOpen; decide +kernel

/-- The counter clause of `UnsettledKeyAnswersAreFree`. -/
theorem witness_UnsettledCounter :
    let s : State := { flying 0x100A mid with keyPort := .rebound }
    s.busy = true ∧ s.keyPort ≠ .settled ∧ perform .blockTurn s = .next (after .blockTurn s) ∧
    (after .blockTurn s).keyPort ≠ .settled ∧ (after .blockTurn { s with keyPort := .torn }).keyPort ≠ .settled :=
  ⟨by decide +kernel, by decide +kernel, performed (by decide +kernel), by decide +kernel, by decide +kernel⟩

/-- The table commands after a key change: LOADH of another subkey than that of the bound key, LOADH of that one, GENH. -/
theorem witness_UnsettledTable :
    let s : State := { flying 0x2 mid with keyPort := .rebound }
    let other : State := { s with opnd := Config.cipher s.keyEpoch 0 ^^^ 1 }
    let same : State := { s with opnd := Config.cipher s.keyEpoch 0 }
    (s.busy = true ∧ s.keyPort = .rebound ∧ decode s.debugMulh s.pend = .ok .loadh ∧
      decode s.debugMulh 0x1 = .ok .genh) ∧
    (other.opnd ≠ Config.cipher other.keyEpoch 0 ∧ same.opnd = Config.cipher same.keyEpoch 0) ∧
    (perform .blockTurn other = .next (after .blockTurn other) ∧ perform .blockTurn same = .next (after .blockTurn same) ∧
      perform .blockTurn { s with pend := 0x1 } = .next (after .blockTurn { s with pend := 0x1 })) ∧
    (allowedAfterBinding true 0x00000C05 = false ∧ allowedAfterBinding true 0x00000004 = false) :=
  ⟨by decide +kernel, ⟨xor_one_ne _, rfl⟩,
    ⟨performed (by decide +kernel), performed (by decide +kernel), performed (by decide +kernel)⟩, by decide +kernel⟩

/-- One command that ends with each code. -/
theorem witness_FailingCommandsChangeOnlyWhatIsSaid :
    (exec .mulh { mid with debugMulh := false } = .next (run .mulh { mid with debugMulh := false }) ∧
      (run .mulh { mid with debugMulh := false }).err = .illegal) ∧
    (exec .ivblk State.reset = .next (run .ivblk State.reset) ∧ (run .ivblk State.reset).err = .state) ∧
    (exec (.finish 3) mid = .next (run (.finish 3) mid) ∧ (run (.finish 3) mid).err = .param) ∧
    (exec .ivblk (ivAt 0x1FFFFFFFFFFFFFF0) = .next (run .ivblk (ivAt 0x1FFFFFFFFFFFFFF0)) ∧
      (run .ivblk (ivAt 0x1FFFFFFFFFFFFFF0)).err = .limit) ∧
    (exec (.check 16) mid = .next (run (.check 16) mid) ∧ (run (.check 16) mid).err = .authfail) :=
  ⟨⟨ran (by decide +kernel), by decide +kernel⟩, ⟨ran (by decide +kernel), by decide +kernel⟩, ⟨ran (by decide +kernel), by decide +kernel⟩,
    ⟨ran (by decide +kernel), by decide +kernel⟩, ⟨ran (by decide +kernel), by decide +kernel⟩⟩

theorem witness_StateIsReportedExactly :
    exec (.enc 1) (loaded subkey0) = .next (run (.enc 1) (loaded subkey0)) ∧
    (run (.enc 1) (loaded subkey0)).err = .state ∧ StateError (.enc 1) (loaded subkey0) ∧
    (run (.ghashc 1) begun).err = .ok ∧ ¬ StateError (.ghashc 1) begun :=
  ⟨ran (by decide +kernel), by decide +kernel, .inl (by decide +kernel), by decide +kernel,
    by unfold StateError DataStateError; decide +kernel⟩

theorem witness_ParamIsReportedExactly :
    exec (.start 0) begun = .next (run (.start 0) begun) ∧ (run (.start 0) begun).err = .param ∧
    ¬ StateError (.start 0) begun ∧ LenIllegal (.start 0) begun ∧ (run (.start 0) (ivAt 16)).err = .ok ∧
    ¬ LenIllegal (.start 0) (ivAt 16) ∧ LenIllegal (.check 3) mid ∧ ¬ LenIllegal (.check 4) mid ∧
    (run (.aad 17) begun).err = .param :=
  ⟨ran (by decide +kernel), by decide +kernel, by unfold StateError; decide +kernel,
    by unfold LenIllegal; decide +kernel, by decide +kernel, by unfold LenIllegal; decide +kernel,
    by unfold LenIllegal; decide +kernel, by unfold LenIllegal; decide +kernel, by decide +kernel⟩

theorem witness_LimitIsReportedExactly :
    let s : State := { mid with blkCnt := 4294967294 }
    exec (.enc 1) s = .next (run (.enc 1) s) ∧ (run (.enc 1) s).err = .limit ∧
    ¬ StateError (.enc 1) s ∧ ¬ LenIllegal (.enc 1) s ∧ PastLimit (.enc 1) s ∧ ¬ PastLimit (.enc 0) s ∧
    ¬ PastLimit (.enc 1) { mid with blkCnt := 4294967293 } ∧
    PastLimit (.start 1) (ivAt 0x1FFFFFFFFFFFFFFF) ∧ ¬ PastLimit (.start 0) (ivAt 0x1FFFFFFFFFFFFFFF) := by
  refine ⟨ran (by decide +kernel), by decide +kernel, ?_, ?_, ?_, ?_, ?_, ?_, ?_⟩
  · unfold StateError DataStateError; decide +kernel
  · unfold LenIllegal; decide +kernel
  all_goals unfold PastLimit; unfold PastBlockLimit; decide +kernel

theorem witness_AuthfailIsReportedOnlyByCheck :
    exec (.check 4) mid = .next (run (.check 4) mid) ∧ (run (.check 4) mid).err = .authfail ∧ mid.sess = .started ∧
    bytesOf 4 (SessionTag mid) ≠ bytesOf 4 mid.opnd :=
  ⟨ran (by decide +kernel), by decide +kernel, by decide +kernel, by decide +kernel⟩

theorem witness_FaultIsLeftOnlyByTheListedCommands :
    let s : State := { mid with sess := .fault }
    s.sess = .fault ∧ s.tv = true ∧ exec .ivblk s = .next (run .ivblk s) ∧ exec (.aad 4) s = .next (run (.aad 4) s) ∧
    exec (.start 0) s = .next (run (.start 0) s) ∧ perform .reset s = .next (after .reset s) :=
  ⟨by decide +kernel, by decide +kernel, ran (by decide +kernel), ran (by decide +kernel),
    ran (by decide +kernel), performed (by decide +kernel)⟩

theorem witness_SessionStateAfterSuccess :
    (exec (.finish 16) mid = .next (run (.finish 16) mid) ∧ (run (.finish 16) mid).err = .ok) ∧
    (exec (.check 16) mid = .next (run (.check 16) mid) ∧ (run (.check 16) mid).err = .authfail) :=
  ⟨⟨ran (by decide +kernel), by decide +kernel⟩, ran (by decide +kernel), by decide +kernel⟩

theorem witness_CounterBlockMovesOnlyAsSaid :
    exec (.dec 16) begun = .next (run (.dec 16) begun) ∧ (run (.dec 16) begun).err = .ok ∧
    (∀ n : Nat, Instr.dec 16 ≠ .start n) ∧ begun.sess = .started ∧ (run (.dec 16) begun).sess = .started ∧
    (exec .ivblk mid = .next (run .ivblk mid) ∧ (run .ivblk mid).err = .ok ∧ mid.sess ≠ .ivload) :=
  ⟨ran (by decide +kernel), by decide +kernel, nofun, by decide +kernel, by decide +kernel, ran (by decide +kernel),
    by decide +kernel, by decide +kernel⟩

theorem witness_OnlyTableCommandsWriteTheTable :
    (perform .blockTurn (flying 0x2 mid) = .next (after .blockTurn (flying 0x2 mid)) ∧
      ¬ ((after .blockTurn (flying 0x2 mid)).h = mid.h ∧ (after .blockTurn (flying 0x2 mid)).m = mid.m ∧
        (after .blockTurn (flying 0x2 mid)).tv = mid.tv)) ∧
    (perform .reset mid = .next (after .reset mid) ∧ mid.tv = true ∧ (after .reset mid).tv = false) :=
  ⟨⟨performed (by decide +kernel), by decide +kernel⟩, performed (by decide +kernel), by decide +kernel, by decide +kernel⟩

theorem witness_AuthOkOnlyAfterAMatchingCheck :
    (let s : State := { flying 0x100B mid with opnd := tag2 };
      perform .blockTurn s = .next (after .blockTurn s) ∧ s.authOk = false ∧ (after .blockTurn s).authOk = true ∧
        s.busy = true ∧ decode s.debugMulh s.pend = .ok (.check 16) ∧ s.sess = .started ∧
        bytesOf 16 (SessionTag s) = bytesOf 16 s.opnd) ∧
    (let s : State := { mid with authOk := true };
      s.busy = false ∧ perform (.write .w32 0x00 0) s = .next (after (.write .w32 0x00 0) s)) :=
  ⟨⟨performed (by decide +kernel), by decide +kernel, by decide +kernel, by decide +kernel, by decide +kernel,
    by decide +kernel, by decide +kernel⟩, by decide +kernel, performed (by decide +kernel)⟩

theorem witness_CipherRequestsAreExactlyTheListedOnes :
    exec .genh mid = .next (run .genh mid) ∧ exec (.start 12) mid = .next (run (.start 12) mid) ∧
    (run (.start 12) mid).err = .ok ∧ exec (.enc 0) mid = .next (run (.enc 0) mid) :=
  ⟨ran (by decide +kernel), ran (by decide +kernel), by decide +kernel, ran (by decide +kernel)⟩

/-- Two states that differ in their secrets; CHECK tells them apart, FINISH 3 does not. -/
theorem witness_ErrorCodesRevealNoSecret :
    SamePublic mid { mid with acc := 0, h := 1, gctr0 := 2, civ := 3, opnd := tag2, din := 4 } ∧
    exec (.check 16) { mid with opnd := tag2 } = .next (run (.check 16) { mid with opnd := tag2 }) ∧
    exec (.check 16) mid = .next (run (.check 16) mid) ∧ exec (.finish 3) mid = .next (run (.finish 3) mid) :=
  ⟨⟨rfl, rfl, rfl, rfl, rfl, rfl, rfl, rfl, rfl⟩, ran (by decide +kernel), ran (by decide +kernel), ran (by decide +kernel)⟩

theorem witness_LatencyRevealsNoSecret :
    let s : State := flying 0x100B mid
    (s.busy = true ∧ perform .blockTurn s = .next (after .blockTurn s)) ∧
    (decode s.debugMulh s.pend = .ok (.check 16) ∧ s.sess = .started) ∧
    SamePublic s { s with acc := 0, opnd := tag2, h := 7 } ∧ s.pend = ({ s with acc := 0, opnd := tag2, h := 7 } : State).pend :=
  ⟨⟨by decide +kernel, performed (by decide +kernel)⟩, ⟨by decide +kernel, by decide +kernel⟩,
    ⟨rfl, rfl, rfl, rfl, rfl, rfl, rfl, rfl, rfl⟩, rfl⟩

/-- Each result class occurs, with the ERR that shows it. -/
theorem witness_ResultClasses :
    (pendingClass (flying 0x0000000C mid) = .decodeRefusal ∧ (after .blockTurn (flying 0x0000000C mid)).err = .illegal) ∧
    (pendingClass (flying 0x0000030B mid) = .checkRefusal ∧ (after .blockTurn (flying 0x0000030B mid)).err = .param) ∧
    (pendingClass (flying 0x0000100B mid) = .performed ∧ (after .blockTurn (flying 0x0000100B mid)).err = .authfail) ∧
    (pendingClass (flying 0x00000007 mid) = .performed ∧ (after .blockTurn (flying 0x00000007 mid)).err = .ok) := by
  decide +kernel

theorem witness_CheckShowsOnlyTheVerdict :
    exec (.check 8) mid = .next (run (.check 8) mid) ∧
    exec (.check 8) { mid with opnd := tag2 } = .next (run (.check 8) { mid with opnd := tag2 }) ∧
    mid.sess = .started ∧ (4 ≤ 8 ∧ 8 ≤ 16) :=
  ⟨ran (by decide +kernel), ran (by decide +kernel), by decide +kernel, by decide⟩

theorem witness_CheckComparesEveryByte :
    let s : State := { mid with opnd := tag2 }
    (s.authOk = false ∧ exec (.check 16) s = .next (run (.check 16) s) ∧ (run (.check 16) s).authOk = true ∧
      0 < 8 * 16 ∧ 127 < 8 * 16) ∧
    (exec (.check 4) s = .next (run (.check 4) s) ∧ (run (.check 4) s).authOk = true ∧ 31 < 8 * 4) :=
  ⟨⟨by decide +kernel, ran (by decide +kernel), by decide +kernel, by decide⟩, ran (by decide +kernel), by decide +kernel, by decide⟩

/-- The invariant is met in the middle of a message, with a command in flight and events to come. -/
theorem witness_EveryStepKeepsTheInvariant :
    let s : State := { flying 0x1007 mid with host := [.write .w32 0x00 1, .bindKey, .blockTurn, .reset] }
    s.Inv ∧ step s = .next (stepped s) := by
  refine ⟨⟨?_, ?_, ?_, ?_, ?_, ?_, ?_, ?_, ?_, ?_, ?_, ?_, ?_, ?_, ?_, ?_, ?_⟩, made (by decide +kernel)⟩ <;> decide +kernel

theorem witness_IvMayEndWithStart0OrStart16 :
    (let s : State := { ivAt 0x1FFFFFFFFFFFFFEF with opnd := 1 };
      s.tv = true ∧ s.keyPort = .settled ∧ (s.sess = .ivload → s.ivLen.toNat + 16 ≤ 2 ^ 61 - 1) ∧
      exec .ivblk s = .next (run .ivblk s) ∧
      exec (.start 0) (run .ivblk s) = .next (run (.start 0) (run .ivblk s)) ∧
      exec (.start 16) s = .next (run (.start 16) s)) ∧
    (mid.tv = true ∧ mid.keyPort = .settled ∧ (mid.sess = .ivload → mid.ivLen.toNat + 16 ≤ 2 ^ 61 - 1) ∧
      exec .ivblk mid = .next (run .ivblk mid) ∧
      exec (.start 0) (run .ivblk mid) = .next (run (.start 0) (run .ivblk mid)) ∧
      exec (.start 16) mid = .next (run (.start 16) mid)) :=
  ⟨⟨by decide +kernel, by decide +kernel, by decide +kernel, ran (by decide +kernel), ran (by decide +kernel),
      ran (by decide +kernel)⟩,
    ⟨by decide +kernel, by decide +kernel, by decide +kernel, ran (by decide +kernel), ran (by decide +kernel),
      ran (by decide +kernel)⟩⟩

theorem witness_DecodeOfEncodeIsTheCommand :
    Instr.mulh.wellFormed true = true ∧ (Instr.enc 31).wellFormed false = true ∧ (Instr.finish 0).wellFormed true = true := by
  decide

theorem witness_DataCommandsAreTheCtrStream :
    begun.sess = .started ∧ begun.busy = false ∧ begun.keyPort = .settled ∧ begun.dclosed = false ∧
    begun.blkCnt.toNat + (chunks (List.replicate 17 0x5A)).length ≤ 2 ^ 32 - 2 ∧
    (begun.dmode = .none ∨ begun.dmode = .enc) ∧ (begun.dmode = .none ∨ begun.dmode = .dec) ∧
    (mid.dmode = .none ∨ mid.dmode = .enc) := by decide +kernel

theorem witness_SessionAccumulatesGhashOfTheStreams :
    FreshSession begun ∧ ([1, 2, 3] : List Byte).length ≤ 2 ^ 61 - 1 ∧
    (List.replicate 17 (0x5A : Byte)).length ≤ 16 * (2 ^ 32 - 2) :=
  ⟨⟨rfl, rfl, rfl, rfl, rfl, rfl, rfl, rfl, rfl, rfl⟩, by decide, by decide⟩

/-- IDLE after GENH, whatever the cipher. -/
def keyed : State := loaded (Config.cipher 0 0)

theorem keyed_ready : ReadyForMessage keyed := ⟨rfl, rfl, rfl, nofun⟩

theorem witness_GcmEncryptComputesGcm :
    ReadyForMessage keyed ∧ keyed.m = genTable (Config.cipher keyed.keyEpoch 0) ∧
    1 ≤ iv6.length ∧ iv6.length ≤ 2 ^ 61 - 1 ∧ ([] : List Byte).length ≤ 2 ^ 61 - 1 ∧
    (List.replicate 17 (0x5A : Byte)).length ≤ 16 * (2 ^ 32 - 2) ∧ 4 ≤ 4 ∧ 4 ≤ 16 :=
  ⟨keyed_ready, rfl, by decide, by decide, by decide, by decide, by decide, by decide⟩

/-- Does the outcome carry a result? -/
def gives {α : Type} (o : Host.Outcome (Option α × State) Fault Refusal) : Bool :=
  match o with
  | .next (some _, _) => true
  | .next (none, _) => false
  | .fault _ => false
  | .refused _ => false

theorem gives_some {α : Type} {o : Host.Outcome (Option α × State) Fault Refusal} (h : gives o = true) :
    ∃ a t, o = .next (some a, t) := by
  unfold gives at h
  split at h
  · exact ⟨_, _, rfl⟩
  all_goals cases h

/-- An encryption that succeeds, and a second state under the same key. -/
theorem witness_EncryptThenDecryptAndCheckRoundTrip :
    ReadyForMessage keyed ∧
    (∃ c t s, gcmEncrypt 1 (List.replicate 12 0) [1, 2] [3] 16 keyed = .next (some (c, t), s)) ∧
    ReadyForMessage { keyed with lenA := 5, sess := .finished } ∧
    ({ keyed with lenA := 5, sess := .finished } : State).m = keyed.m := by
  refine ⟨keyed_ready, ?_, ⟨rfl, rfl, rfl, nofun⟩, rfl⟩
  obtain ⟨⟨c, t⟩, s, h⟩ := gives_some (o := gcmEncrypt 1 (List.replicate 12 0) [1, 2] [3] 16 keyed) (by decide +kernel)
  exact ⟨c, t, s, h⟩

end Sys2Proof.Tests
end

section
/-! Proofs about the state (spec/10_state.md): the invariant of R57, and what moves OVR, AUTH_OK, CIV and the table. -/

namespace Sys2Proof.Machine

open Sys2Proof

/-! ### What an event, a completion and a command can do -/

/-- One step is one event on the state whose list of events is shorter by it, or empty. -/
theorem step_performs {s t : State} (h : step s = .next t) :
    ∃ e rest, perform e { s with host := rest } = .next t := by
  unfold step nextEvent at h
  split at h
  · exact ⟨.blockTurn, s.host, h⟩
  · next e rest _ => exact ⟨e, rest, h⟩

theorem perform_blockTurn_busy {s : State} (hb : s.busy = true) : perform .blockTurn s = complete s := by
  simp [perform, hb]

theorem perform_blockTurn_idle {s : State} (hb : s.busy = false) : perform .blockTurn s = .next s := by
  simp [perform, hb]

/-- All that the block's turn can answer. -/
theorem blockTurn_cases {s t : State} (h : perform .blockTurn s = .next t) :
    (s.busy = true ∧ complete s = .next t) ∨ t = s := by
  cases hb : s.busy with
  | true => exact .inl ⟨rfl, (perform_blockTurn_busy hb).symm.trans h⟩
  | false => exact .inr (Host.Outcome.next.inj (h.symm.trans (perform_blockTurn_idle hb)))

/-- All that a CMD write can do. -/
theorem writeCmd_cases (w : Word) (s : State) :
    (s.busy = true ∧ writeCmd w s = { s with ovr := true }) ∨ (s.busy = false ∧ writeCmd w s = accept w s) := by
  unfold writeCmd; cases s.busy <;> simp

theorem hostWrite_cmd (w : Word) (s : State) :
    hostWrite .w32 0x00 w s = reply ⟨0, false⟩ (writeCmd w s) := rfl

/-! ### What a command leaves unchanged -/

theorem beginIv_of_ivload {s : State} (h : s.sess = .ivload) : beginIv s = s := if_pos h

theorem beginIv_of_not_ivload {s : State} (h : s.sess ≠ .ivload) : beginIv s = clearSession s := if_neg h

section

variable (s : State)

@[simp] theorem beginIv_h : (beginIv s).h = s.h := by unfold beginIv; split <;> rfl
@[simp] theorem beginIv_m : (beginIv s).m = s.m := by unfold beginIv; split <;> rfl
@[simp] theorem beginIv_tv : (beginIv s).tv = s.tv := by unfold beginIv; split <;> rfl
@[simp] theorem beginIv_authOk : (beginIv s).authOk = s.authOk := by unfold beginIv; split <;> rfl
@[simp] theorem beginIv_ovr : (beginIv s).ovr = s.ovr := by unfold beginIv; split <;> rfl
@[simp] theorem beginIv_civ : (beginIv s).civ = if s.sess = .ivload then s.civ else 0 := by
  unfold beginIv; split <;> rfl

end

/-- Refusals, LIMIT failures and no-ops move STATE and ERR only, so a command keeps every other part `f` of the state that
its effect keeps. -/
theorem exec_keeps_of_effect {β : Type} {i : Instr} {s t : State} (f : State → β)
    (hf : ∀ (x : SessState) (e : ErrCode), f { s with sess := x, err := e } = f s)
    (heff : f (commandEffect i s) = f s) (h : exec i s = .next t) : f t = f s := by
  obtain ⟨e, -, rfl⟩ | ⟨-, rfl⟩ | ⟨-, rfl⟩ | ⟨-, rfl⟩ := exec_cases h
  · exact hf s.sess e
  · exact hf .fault .limit
  · exact hf s.sess .ok
  · exact heff

/-- AUTH_OK is left as it was by every command but a CHECK whose checks pass. -/
theorem exec_authOk_cases {i : Instr} {s t : State} (h : exec i s = .next t) :
    t.authOk = s.authOk ∨ ∃ n, i = .check n ∧ verdictTag n s = .perform ∧ t = effectCheck n s := by
  obtain ⟨e, -, rfl⟩ | ⟨-, rfl⟩ | ⟨-, rfl⟩ | ⟨hv, rfl⟩ := exec_cases h
  · exact .inl rfl
  · exact .inl rfl
  · exact .inl rfl
  · cases i with
    | check n => exact .inr ⟨n, rfl, hv, rfl⟩
    | ivblk => exact .inl (beginIv_authOk s)
    | _ => exact .inl rfl

/-! ### Verdicts other than `perform` -/

theorem verdictIvblk_limit {s : State} (h : verdictIvblk s = .limit) : s.tv = true := by
  unfold verdictIvblk at h; split_ifs at h; simp_all

theorem verdictStart_limit {n : Nat} {s : State} (h : verdictStart n s = .limit) : s.tv = true := by
  unfold verdictStart at h; split_ifs at h; simp_all

theorem verdictAad_limit {n : Nat} {s : State} (h : verdictAad n s = .limit) : s.sess = .started := by
  unfold verdictAad at h; split_ifs at h; simp_all

theorem verdictData_limit {d : DMode} {n : Nat} {s : State} (h : verdictData d n s = .limit) :
    s.sess = .started := by
  unfold verdictData at h; split_ifs at h; simp_all

theorem verdictTag_ne_limit (n : Nat) (s : State) : verdictTag n s ≠ .limit := by
  unfold verdictTag; split_ifs <;> nofun

theorem verdictMulh_ne_limit (s : State) : verdictMulh s ≠ .limit := by
  unfold verdictMulh; split_ifs <;> nofun

/-- Only a command that needs TV = 1 or an open session can pass a limit. -/
theorem limit_needs_table {i : Instr} {s : State} (h : commandVerdict i s = .limit) :
    s.tv = true ∨ s.sess = .started := by
  cases i with
  | nop => cases h
  | genh => cases h
  | loadh => cases h
  | mulh => exact absurd h (verdictMulh_ne_limit s)
  | ivblk => exact .inl (verdictIvblk_limit h)
  | start n => exact .inl (verdictStart_limit h)
  | aad n => exact .inr (verdictAad_limit h)
  | enc n => exact .inr (verdictData_limit h)
  | dec n => exact .inr (verdictData_limit h)
  | ghashc n => exact .inr (verdictData_limit h)
  | finish n => exact absurd h (verdictTag_ne_limit n s)
  | check n => exact absurd h (verdictTag_ne_limit n s)

/-! ### Counters that do not wrap -/

/-- Within LEN_LIMIT a 64-bit byte counter adds as a number. -/
theorem toNat_add_len {c : BitVec 64} {n : Nat} (h : c.toNat + n < 2 ^ 64) :
    (c + BitVec.ofNat 64 n).toNat = c.toNat + n := by
  rw [BitVec.toNat_add, BitVec.toNat_ofNat]; omega

/-- Within BLK_LIMIT the block counter counts as a number. -/
theorem toNat_add_blk {c : BitVec 32} (h : c.toNat + 1 ≤ Config.blkLimit) : (c + 1).toNat = c.toNat + 1 :=
  BitVec.toNat_add_of_lt (Nat.lt_of_le_of_lt h (by decide))

/-! ### The invariant with AUTH_OK set aside -/

/-- The state with AUTH_OK cleared. CHECK sets AUTH_OK before its completion clears BUSY, so the invariant of what a
command leaves is stated of this state. -/
def State.unverified (s : State) : State := { s with authOk := false }

section

variable {s : State}

theorem unverified_inv (h : s.Inv) : s.unverified.Inv :=
  { h with busyNotAuthentic := fun _ => rfl, authenticFinished := nofun }

@[simp] theorem KeyPort.afterFlight_ne_torn (k : KeyPort) : k.afterFlight ≠ .torn := by cases k <;> nofun

/-- A table command leaves the port torn exactly where it was. -/
theorem KeyPort.afterTable_eq_torn (b : Bool) (k : KeyPort) : k.afterTable b = .torn ↔ k = .torn := by
  cases b <;> cases k <;> decide

/-- The end of a completion restores the whole invariant. -/
theorem retire_inv (h : s.unverified.Inv) (hA : s.authOk = true → s.sess = .finished ∧ s.err = .ok) :
    (retire s).Inv :=
  { h with
    busyNotAuthentic := nofun
    authenticFinished := hA
    tornOnlyBusy := fun hk => absurd hk (KeyPort.afterFlight_ne_torn _) }

theorem setErr_inv (e : ErrCode) (h : s.unverified.Inv) : (setErr e s).unverified.Inv :=
  { h with authenticFinished := nofun }

/-- A session is open only with a table (10_state.md R57 (a)). -/
theorem tv_of_started (h : s.unverified.Inv) (hs : s.sess = .started) : s.tv = true := by
  cases htv : s.tv with
  | true => rfl
  | false => exact absurd (hs.symm.trans (h.idleWithoutTable htv)) nofun

theorem limitFail_inv (h : s.unverified.Inv) (htv : s.tv = true) : (limitFail s).unverified.Inv :=
  { h with
    idleWithoutTable := fun hf => absurd (htv.symm.trans hf) nofun
    ivload := nofun
    authenticFinished := nofun }

/-- A cleared session in IDLE keeps the invariant, whatever STATE was. -/
theorem clearSession_idle_inv (h : s.unverified.Inv) :
    ({ clearSession s with sess := .idle } : State).unverified.Inv :=
  { h with
    idleWithoutTable := fun _ => rfl
    modeClosesAad := fun hd => absurd rfl hd
    closedHasMode := nofun
    lenALimit := Nat.zero_le _
    ivLenLimit := Nat.zero_le _
    blkCntLimit := Nat.zero_le _
    lenCBounds := nofun
    lenCZero := fun _ => rfl
    partialDataClosed := fun hp => absurd rfl hp
    partialAadClosed := fun hp => absurd rfl hp
    ivload := nofun
    ivLenBlocks := rfl
    authenticFinished := nofun }

/-! ### Each command's effect keeps it -/

theorem loadTable_inv (b : Block) (h : s.unverified.Inv) : (loadTable b s).unverified.Inv :=
  { clearSession_idle_inv h with
    idleWithoutTable := nofun
    tableOfH := rfl
    noSubkey := nofun
    authenticFinished := nofun }

theorem settleKey_inv (b : Bool) (h : s.unverified.Inv) : (settleKey b s).unverified.Inv :=
  { h with tornOnlyBusy := fun hk => h.tornOnlyBusy ((KeyPort.afterTable_eq_torn b _).mp hk) }

theorem cipherRequest_inv (b : Block) (h : s.unverified.Inv) : (cipherRequest b s).unverified.Inv :=
  { h with }

theorem effectGenh_inv (h : s.unverified.Inv) : (effectGenh s).unverified.Inv :=
  loadTable_inv _ (cipherRequest_inv _ (settleKey_inv _ h))

theorem effectLoadh_inv (h : s.unverified.Inv) : (effectLoadh s).unverified.Inv :=
  loadTable_inv _ (settleKey_inv _ h)

theorem effectMulh_inv (h : s.unverified.Inv) : (effectMulh s).unverified.Inv :=
  { h with authenticFinished := nofun }

/-- A further block of a long IV. -/
theorem foldIv_ivload_inv (h : s.unverified.Inv) (htv : s.tv = true) (hs : s.sess = .ivload)
    (hl : s.ivLen.toNat + 16 ≤ Config.lenLimit) : (foldIv s).unverified.Inv := by
  have hadd : (s.ivLen + 16).toNat = s.ivLen.toNat + 16 :=
    toNat_add_len (n := 16) (by simp only [Config.lenLimit] at hl; omega)
  have hblocks : s.ivLen.toNat % 16 = 0 := h.ivLenBlocks
  obtain ⟨-, hA, hC, hB⟩ := h.ivload hs
  exact { h with
    idleWithoutTable := fun hf => absurd (htv.symm.trans hf) nofun
    ivLenLimit := hadd ▸ hl
    ivload := fun _ => ⟨hadd ▸ Nat.le_add_left _ _, hA, hC, hB⟩
    ivLenBlocks := by
      show (s.ivLen + 16).toNat % 16 = 0
      omega
    authenticFinished := nofun }

/-- The first block of a long IV. -/
theorem foldIv_clearSession_inv (h : s.unverified.Inv) (htv : s.tv = true) :
    (foldIv (clearSession s)).unverified.Inv :=
  { clearSession_idle_inv h with
    idleWithoutTable := fun hf => absurd (htv.symm.trans hf) nofun
    ivLenLimit := (by decide : 16 ≤ Config.lenLimit)
    ivload := fun _ => ⟨Nat.le_refl 16, rfl, rfl, rfl⟩
    ivLenBlocks := (by decide : 16 % 16 = 0)
    authenticFinished := nofun }

theorem effectIvblk_inv (h : s.unverified.Inv) (hp : verdictIvblk s = .perform) :
    (effectIvblk s).unverified.Inv := by
  obtain ⟨htv, hl⟩ := verdictIvblk_perform.mp hp
  by_cases hs : s.sess = .ivload
  · rw [effectIvblk, beginIv_of_ivload hs]
    exact foldIv_ivload_inv h htv hs (by simpa [ivBase, hs] using hl)
  · rw [effectIvblk, beginIv_of_not_ivload hs]
    exact foldIv_clearSession_inv h htv

theorem openSession_inv (j0 : Block) (h : s.unverified.Inv) (htv : s.tv = true) :
    (openSession j0 s).unverified.Inv :=
  { clearSession_idle_inv h with
    idleWithoutTable := fun hf => absurd (htv.symm.trans hf) nofun
    ivload := nofun
    authenticFinished := nofun }

theorem effectAad_inv {n : Nat} (h : s.unverified.Inv) (hp : verdictAad n s = .perform) :
    (effectAad n s).unverified.Inv := by
  obtain ⟨hs, hmode, hopen, hn, -, hl⟩ := verdictAad_perform.mp hp
  have hadd : (s.lenA + BitVec.ofNat 64 n).toNat = s.lenA.toNat + n :=
    toNat_add_len (by simp only [Config.lenLimit] at hl; omega)
  have hwhole : s.lenA.toNat % 16 = 0 := by
    by_contra hne
    exact absurd (hopen.symm.trans (h.partialAadClosed hne)) nofun
  exact { h with
    modeClosesAad := fun hd => absurd hmode hd
    lenALimit := hadd ▸ hl
    partialAadClosed := fun hne => by
      have hlt : n < 16 := by
        have : (s.lenA + BitVec.ofNat 64 n).toNat % 16 ≠ 0 := hne
        omega
      exact Bool.or_eq_true_iff.mpr (.inr (decide_eq_true hlt))
    ivload := fun hi => absurd (hs.symm.trans hi) nofun
    authenticFinished := nofun }

/-- While the data are open they are whole blocks, BLKCNT of them (10_state.md R57 (e), (f)). -/
theorem lenC_of_open (h : s.unverified.Inv) (hopen : s.dclosed = false) :
    s.lenC.toNat = 16 * s.blkCnt.toNat := by
  have hwhole : s.lenC.toNat % 16 = 0 := by
    by_contra hne
    exact absurd (hopen.symm.trans (h.partialDataClosed hne)) nofun
  have hzero : s.blkCnt.toNat = 0 → s.lenC.toNat = 0 := h.lenCZero
  have hbounds : 0 < s.blkCnt.toNat →
    16 * (s.blkCnt.toNat - 1) < s.lenC.toNat ∧ s.lenC.toNat ≤ 16 * s.blkCnt.toNat := h.lenCBounds
  omega

/-- The counters and phase flags of a data command, whose checks see none of the registers its keystream moves. -/
theorem commitData_inv {d : DMode} {n : Nat} (hd : d ≠ .none) (h : s.unverified.Inv)
    (hp : verdictData d n s = .perform) : (commitData d n s).unverified.Inv := by
  obtain ⟨hs, -, hopen, hn, hpos, hl⟩ := verdictData_perform.mp hp
  have hlenC := lenC_of_open h hopen
  have hblk := toNat_add_blk hl
  have hadd : (s.lenC + BitVec.ofNat 64 n).toNat = 16 * s.blkCnt.toNat + n := by
    rw [← hlenC]
    exact toNat_add_len (by simp only [Config.blkLimit] at hl; omega)
  exact { h with
    modeClosesAad := fun _ => rfl
    closedHasMode := fun _ => hd
    blkCntLimit := hblk ▸ hl
    lenCBounds := fun _ => by
      show 16 * ((s.blkCnt + 1).toNat - 1) < (s.lenC + BitVec.ofNat 64 n).toNat ∧
        (s.lenC + BitVec.ofNat 64 n).toNat ≤ 16 * (s.blkCnt + 1).toNat
      omega
    lenCZero := fun hz => absurd (hblk.symm.trans hz) (Nat.succ_ne_zero _)
    partialDataClosed := fun hne => by
      have hlt : n < 16 := by
        have : (s.lenC + BitVec.ofNat 64 n).toNat % 16 ≠ 0 := hne
        omega
      exact Bool.or_eq_true_iff.mpr (.inr (decide_eq_true hlt))
    partialAadClosed := fun _ => rfl
    ivload := fun hi => absurd (hs.symm.trans hi) nofun
    authenticFinished := nofun }

theorem ctrStep_inv (n : Nat) (c : Block) (h : s.unverified.Inv) : (ctrStep n c s).unverified.Inv :=
  { h with }

theorem effectGhashc_inv {n : Nat} (h : s.unverified.Inv) (hp : verdictData .hash n s = .perform) :
    (effectGhashc n s).unverified.Inv :=
  commitData_inv nofun { h with } hp

/-- FINISH and CHECK end an open session. -/
theorem finished_inv {a d : Block} {e : ErrCode} (h : s.unverified.Inv) (hs : s.sess = .started) :
    ({ s with acc := a, dout := d, sess := .finished, err := e } : State).unverified.Inv :=
  { h with
    idleWithoutTable := fun hf => absurd ((tv_of_started h hs).symm.trans hf) nofun
    ivload := nofun
    authenticFinished := nofun }

/-- Every command whose checks pass keeps the invariant, AUTH_OK set aside. -/
theorem commandEffect_inv {i : Instr} (h : s.unverified.Inv) (hp : commandVerdict i s = .perform) :
    (commandEffect i s).unverified.Inv := by
  cases i with
  | nop => exact setErr_inv .ok h
  | genh => exact effectGenh_inv h
  | loadh => exact effectLoadh_inv h
  | mulh => exact effectMulh_inv h
  | ivblk => exact effectIvblk_inv h hp
  | start n => exact openSession_inv _ h (verdictStart_perform.mp hp).1
  | aad n => exact effectAad_inv h hp
  | enc n => exact commitData_inv nofun (ctrStep_inv _ _ h) hp
  | dec n => exact commitData_inv nofun (ctrStep_inv _ _ h) hp
  | ghashc n => exact effectGhashc_inv h hp
  | finish n => exact finished_inv h (verdictTag_perform.mp hp).1
  | check n => exact finished_inv h (verdictTag_perform.mp hp).1

theorem exec_inv {i : Instr} {t : State} (h : s.unverified.Inv) (hx : exec i s = .next t) : t.unverified.Inv := by
  obtain ⟨e, -, rfl⟩ | ⟨hv, rfl⟩ | ⟨-, rfl⟩ | ⟨hv, rfl⟩ := exec_cases hx
  · exact setErr_inv e h
  · exact limitFail_inv h ((limit_needs_table hv).elim id (tv_of_started h))
  · exact setErr_inv .ok h
  · exact commandEffect_inv h hv

/-- Where AUTH_OK was 0, a command that leaves it 1 has verified a session. -/
theorem exec_authOk_finished {i : Instr} {t : State} (ha : s.authOk = false) (hx : exec i s = .next t)
    (ht : t.authOk = true) : t.sess = .finished ∧ t.err = .ok := by
  obtain heq | ⟨n, -, -, rfl⟩ := exec_authOk_cases hx
  · exact absurd (ha.symm.trans (heq.symm.trans ht)) nofun
  · have hm : tagMatches n s = true := by simpa [effectCheck, ha] using ht
    exact ⟨rfl, by simp [effectCheck, hm]⟩

/-! ### Each event keeps the invariant -/

theorem complete_inv {t : State} (h : s.Inv) (hb : s.busy = true) (hc : complete s = .next t) : t.Inv := by
  have ha : s.authOk = false := h.busyNotAuthentic hb
  obtain ⟨i, u, -, hx, rfl⟩ | ⟨e, -, rfl⟩ := complete_cases hc
  · exact retire_inv (exec_inv (unverified_inv h) hx) (exec_authOk_finished ha hx)
  · exact retire_inv (setErr_inv .illegal (unverified_inv h)) fun hA => absurd (ha.symm.trans hA) nofun

theorem reply_inv (r : BusReply) (h : s.Inv) : (reply r s).Inv := { h with }

theorem accept_inv (w : Word) (h : s.Inv) : (accept w s).Inv :=
  { h with
    busyNotAuthentic := fun _ => rfl
    authenticFinished := nofun
    tornOnlyBusy := fun _ => rfl }

theorem writeCmd_inv (w : Word) (h : s.Inv) : (writeCmd w s).Inv := by
  obtain ⟨-, hw⟩ | ⟨-, hw⟩ := writeCmd_cases w s
  · rw [hw]; exact { h with }
  · rw [hw]; exact accept_inv w h

theorem hostWrite_inv (w : Width) (off : BitVec 8) (v : Word) (h : s.Inv) : (hostWrite w off v s).Inv := by
  obtain ⟨-, -, hw⟩ | ⟨-, -, hw⟩ | ⟨d, r, hw⟩ := hostWrite_cases w off v s
  · rw [hw]; exact reply_inv _ (writeCmd_inv v h)
  · rw [hw]; exact { h with }
  · rw [hw]; exact { h with }

theorem bindKey_inv (h : s.Inv) : (bindKey s).Inv :=
  { h with
    tornOnlyBusy := fun hk => by
      show s.busy = true
      by_contra hb
      simp [bindKey, hb] at hk }

theorem reset_inv : State.reset.Inv := by constructor <;> decide

theorem resetBlock_inv (s : State) : (resetBlock s).Inv :=
  { reset_inv with tornOnlyBusy := fun hk => absurd hk (KeyPort.afterFlight_ne_torn _) }

theorem perform_inv {e : HostEvent} {t : State} (h : s.Inv) (hp : perform e s = .next t) : t.Inv := by
  cases e with
  | read w off =>
    obtain ⟨r, hr⟩ := hostRead_reply w off s
    obtain rfl := Host.Outcome.next.inj hp
    rw [hr]; exact reply_inv r h
  | write w off v => obtain rfl := Host.Outcome.next.inj hp; exact hostWrite_inv w off v h
  | blockTurn =>
    obtain ⟨hb, hc⟩ | rfl := blockTurn_cases hp
    · exact complete_inv h hb hc
    · exact h
  | reset => obtain rfl := Host.Outcome.next.inj hp; exact resetBlock_inv s
  | bindKey => obtain rfl := Host.Outcome.next.inj hp; exact bindKey_inv h

end

/-- Settles O51: every clause is a closed fact about the reset state. -/
theorem resetStateMeetsTheInvariant : Obligations.ResetStateMeetsTheInvariant := reset_inv

/-- Settles O52: a step is one event, and every event keeps the invariant. -/
theorem everyStepKeepsTheInvariant : Obligations.EveryStepKeepsTheInvariant := by
  intro s t h hstep
  obtain ⟨e, rest, hp⟩ := step_performs hstep
  exact perform_inv (s := { s with host := rest }) { h with } hp

/-! ### OVR -/

/-- A CMD write sets OVR exactly where BUSY is 1 (10_state.md R52). -/
@[simp] theorem writeCmd_ovr (w : Word) (s : State) : (writeCmd w s).ovr = (s.ovr || s.busy) := by
  obtain ⟨hb, hw⟩ | ⟨hb, hw⟩ := writeCmd_cases w s <;> simp [hw, hb]

theorem commandEffect_ovr (i : Instr) (s : State) : (commandEffect i s).ovr = s.ovr := by
  cases i with
  | ivblk => exact beginIv_ovr s
  | _ => rfl

/-- No command moves OVR. -/
theorem exec_ovr {i : Instr} {s t : State} (h : exec i s = .next t) : t.ovr = s.ovr :=
  exec_keeps_of_effect State.ovr (fun _ _ => rfl) (commandEffect_ovr i s) h

theorem complete_ovr {s t : State} (h : complete s = .next t) : t.ovr = s.ovr := by
  obtain ⟨i, u, -, hx, rfl⟩ | ⟨e, -, rfl⟩ := complete_cases h
  · rw [retire_ovr, exec_ovr hx]
  · rfl

/-- Every event but Reset and a legal write to CMD or STATUS keeps OVR. -/
theorem perform_ovr_of_other {e : HostEvent} {s t : State} (h : perform e s = .next t)
    (hcmd : ∀ w, e ≠ .write .w32 0x00 w) (hstatus : ∀ v, e ≠ .write .w32 0x04 v) (hreset : e ≠ .reset) :
    t.ovr = s.ovr := by
  cases e with
  | read w off =>
    obtain ⟨r, hr⟩ := hostRead_reply w off s
    obtain rfl := Host.Outcome.next.inj h
    rw [hr, reply_ovr]
  | write w off v =>
    obtain rfl := Host.Outcome.next.inj h
    obtain ⟨rfl, rfl, -⟩ | ⟨rfl, rfl, -⟩ | ⟨d, r, hw⟩ := hostWrite_cases w off v s
    · exact absurd rfl (hcmd v)
    · exact absurd rfl (hstatus v)
    · rw [hw, reply_ovr]
  | blockTurn =>
    obtain ⟨-, hc⟩ | rfl := blockTurn_cases h
    · exact complete_ovr hc
    · rfl
  | reset => exact absurd rfl hreset
  | bindKey => obtain rfl := Host.Outcome.next.inj h; rfl

/-- Settles O7, by the event: a CMD write, a STATUS write, Reset, or any other. -/
theorem overrunFlagChangesOnlyAsSaid : Obligations.OverrunFlagChangesOnlyAsSaid := by
  refine ⟨rfl, fun e s t h => ⟨?_, ?_, ?_, perform_ovr_of_other h⟩⟩
  · rintro w rfl
    obtain rfl := Host.Outcome.next.inj h
    rw [hostWrite_cmd, reply_ovr, writeCmd_ovr]
  · rintro v rfl
    obtain rfl := Host.Outcome.next.inj h
    rfl
  · rintro rfl
    obtain rfl := Host.Outcome.next.inj h
    rfl

/-! ### The register window -/

/-- Settles O15: `busRead` mentions no register outside the visible ones. -/
theorem busReadsSeeOnlyVisibleRegisters : Obligations.BusReadsSeeOnlyVisibleRegisters := by
  rintro s t off ⟨hbusy, hsess, htv, herr, hauth, hovr, hmulh, hdin, hdout, hlenA, hlenC, hblk⟩
  have hstatus : statusWord s = statusWord t := by
    simp only [statusWord, hbusy, hsess, htv, herr, hauth, hovr, hmulh]
  simp only [busRead, hstatus, hdin, hdout, hlenA, hlenC, hblk]

/-- Appending words adds their values, each in its place. -/
theorem toNat_append_eq_add {m n : Nat} (x : BitVec m) (y : BitVec n) :
    (x ++ y).toNat = x.toNat * 2 ^ n + y.toNat := by
  rw [BitVec.toNat_append, ← Nat.shiftLeft_add_eq_or_of_lt y.isLt, Nat.shiftLeft_eq]

/-- The place of every field of STATUS (10_state.md R54). -/
theorem statusWord_toNat (s : State) : (statusWord s).toNat =
    s.busy.toNat + 2 * s.sess.code.toNat + 16 * s.tv.toNat + 32 * s.err.code.toNat +
      256 * s.authOk.toNat + 512 * s.ovr.toNat + 1024 * s.debugMulh.toNat := by
  have hreserved : (0 : BitVec 21).toNat = 0 := rfl
  simp only [statusWord, toNat_append_eq_add, BitVec.toNat_ofBool, hreserved]
  omega

/-- Settles O9: the fields are the summands of the appended word, and a write of bit 9 masks OVR alone. -/
theorem statusFieldsAndWrite : Obligations.StatusFieldsAndWrite := by
  refine ⟨statusWord_toNat, fun s v => ?_, fun s t h => ?_⟩
  · have hclear : (s.ovr && !v.getLsbD 9) = if v.getLsbD 9 then false else s.ovr := by
      cases v.getLsbD 9 <;> simp
    rw [← hclear]; rfl
  · obtain rfl := Host.Outcome.next.inj h
    show statusWord (resetBlock s) = _
    cases hm : s.debugMulh <;> simp [statusWord, hm, SessState.code, ErrCode.code]

/-! ### The table -/

/-- H, M and TV are the same in both states. -/
def SameTable (s t : State) : Prop := t.h = s.h ∧ t.m = s.m ∧ t.tv = s.tv

theorem commandEffect_sameTable {i : Instr} (s : State) (hg : i ≠ .genh) (hl : i ≠ .loadh) :
    SameTable s (commandEffect i s) := by
  cases i with
  | genh => exact absurd rfl hg
  | loadh => exact absurd rfl hl
  | ivblk => exact ⟨beginIv_h s, beginIv_m s, beginIv_tv s⟩
  | _ => exact ⟨rfl, rfl, rfl⟩

/-- Only GENH and LOADH write the table. -/
theorem exec_sameTable {i : Instr} {s t : State} (h : exec i s = .next t) (hg : i ≠ .genh) (hl : i ≠ .loadh) :
    SameTable s t := by
  obtain ⟨hh, hm, htv⟩ := commandEffect_sameTable s hg hl
  exact ⟨exec_keeps_of_effect State.h (fun _ _ => rfl) hh h, exec_keeps_of_effect State.m (fun _ _ => rfl) hm h,
    exec_keeps_of_effect State.tv (fun _ _ => rfl) htv h⟩

/-- No command clears TV. -/
theorem exec_keeps_tv {i : Instr} {s t : State} (h : exec i s = .next t) (htv : s.tv = true) : t.tv = true := by
  by_cases hg : i = .genh
  · subst hg; obtain rfl := Host.Outcome.next.inj h; rfl
  by_cases hl : i = .loadh
  · subst hl; obtain rfl := Host.Outcome.next.inj h; rfl
  obtain ⟨-, -, heq⟩ := exec_sameTable h hg hl
  exact heq.trans htv

theorem hostWrite_sameTable (w : Width) (off : BitVec 8) (v : Word) (s : State) :
    SameTable s (hostWrite w off v s) := by
  obtain ⟨-, -, hw⟩ | ⟨-, -, hw⟩ | ⟨d, r, hw⟩ := hostWrite_cases w off v s
  · obtain ⟨-, hc⟩ | ⟨-, hc⟩ := writeCmd_cases v s <;> rw [hw, hc] <;> exact ⟨rfl, rfl, rfl⟩
  · rw [hw]; exact ⟨rfl, rfl, rfl⟩
  · rw [hw]; exact ⟨rfl, rfl, rfl⟩

/-- Every event but Reset and the block's turn keeps the table. -/
theorem perform_sameTable {e : HostEvent} {s t : State} (h : perform e s = .next t) (hr : e ≠ .reset)
    (hb : e ≠ .blockTurn) : SameTable s t := by
  cases e with
  | read w off =>
    obtain ⟨r, hr⟩ := hostRead_reply w off s
    obtain rfl := Host.Outcome.next.inj h
    rw [hr]; exact ⟨rfl, rfl, rfl⟩
  | write w off v => obtain rfl := Host.Outcome.next.inj h; exact hostWrite_sameTable w off v s
  | blockTurn => exact absurd rfl hb
  | reset => exact absurd rfl hr
  | bindKey => obtain rfl := Host.Outcome.next.inj h; exact ⟨rfl, rfl, rfl⟩

/-- The block's turn keeps a valid table valid, and keeps the whole table unless it completes GENH or LOADH. -/
theorem blockTurn_table {s t : State} (h : perform .blockTurn s = .next t) :
    (SameTable s t ∨ s.busy = true ∧
      (decode s.debugMulh s.pend = .ok .genh ∨ decode s.debugMulh s.pend = .ok .loadh)) ∧
    (s.tv = true → t.tv = true) := by
  obtain ⟨hb, hc⟩ | rfl := blockTurn_cases h
  · obtain ⟨i, u, hd, hx, rfl⟩ | ⟨e, -, rfl⟩ := complete_cases hc
    · refine ⟨?_, fun htv => exec_keeps_tv (t := u) hx htv⟩
      by_cases hg : i = .genh
      · exact .inr ⟨hb, .inl (hg ▸ hd)⟩
      by_cases hl : i = .loadh
      · exact .inr ⟨hb, .inr (hl ▸ hd)⟩
      exact .inl (exec_sameTable (t := u) hx hg hl)
    · exact ⟨.inl ⟨rfl, rfl, rfl⟩, id⟩
  · exact ⟨.inl ⟨rfl, rfl, rfl⟩, id⟩

/-- Settles O44: of the events other than Reset only a completion can write the table, and only that of GENH or LOADH. -/
theorem onlyTableCommandsWriteTheTable : Obligations.OnlyTableCommandsWriteTheTable := by
  intro e s t h
  by_cases hr : e = .reset
  · exact ⟨fun _ => .inl hr, fun _ _ => hr⟩
  by_cases hb : e = .blockTurn
  · subst hb
    obtain ⟨hsame, htv⟩ := blockTurn_table h
    exact ⟨fun hne => .inr ⟨rfl, hsame.resolve_left hne⟩,
      fun h1 h0 => absurd ((htv h1).symm.trans h0) nofun⟩
  · obtain ⟨hh, hm, htv⟩ := perform_sameTable h hr hb
    exact ⟨fun hne => absurd ⟨hh, hm, htv⟩ hne, fun h1 h0 => absurd (h1.symm.trans (htv.symm.trans h0)) nofun⟩

/-! ### AUTH_OK -/

/-- The differences collected are 0 exactly where every byte agrees. -/
theorem foldl_diffStep_eq_zero (a b : Block) (l : List Nat) (d : Byte) :
    l.foldl (diffStep a b) d = 0 ↔ d = 0 ∧ ∀ j ∈ l, byteAt a j = byteAt b j := by
  induction l generalizing d with
  | nil => simp
  | cons j l ih =>
    rw [List.foldl_cons, ih]
    simp [diffStep, BitVec.or_eq_zero_iff, BitVec.xor_eq_zero_iff, and_assoc]

/-- The comparison of CHECK accepts exactly where the first `n` bytes are the same string. -/
theorem tagDiff_eq_zero_iff_bytesOf (n : Nat) (a b : Block) : tagDiff n a b = 0 ↔ bytesOf n a = bytesOf n b := by
  rw [tagDiff, foldl_diffStep_eq_zero, bytesOf, bytesOf, List.map_inj_left]
  simp

theorem fullTag_eq_sessionTag (s : State) : fullTag s = SessionTag s := by
  unfold fullTag SessionTag SessionHash tagHash
  split
  · next hk => rw [foldNow_settled _ _ hk, fold]
  · next hk => rw [foldNow_unsettled _ _ hk]

theorem tagMatches_iff (n : Nat) (s : State) :
    tagMatches n s = true ↔ bytesOf n (SessionTag s) = bytesOf n s.opnd := by
  rw [tagMatches, beq_iff_eq, tagDiff_eq_zero_iff_bytesOf, fullTag_eq_sessionTag]

/-- Every event but the block's turn sets no AUTH_OK. -/
theorem perform_authOk {e : HostEvent} {s t : State} (h : perform e s = .next t) (hb : e ≠ .blockTurn)
    (ht : t.authOk = true) : s.authOk = true := by
  cases e with
  | read w off =>
    obtain ⟨r, hr⟩ := hostRead_reply w off s
    obtain rfl := Host.Outcome.next.inj h
    rwa [hr] at ht
  | write w off v =>
    obtain rfl := Host.Outcome.next.inj h
    obtain ⟨-, -, hw⟩ | ⟨-, -, hw⟩ | ⟨d, r, hw⟩ := hostWrite_cases w off v s
    · obtain ⟨-, hc⟩ | ⟨-, hc⟩ := writeCmd_cases v s
      · rwa [hw, hc] at ht
      · rw [hw, hc] at ht; cases ht
    · rwa [hw] at ht
    · rwa [hw] at ht
  | blockTurn => exact absurd rfl hb
  | reset => obtain rfl := Host.Outcome.next.inj h; cases ht
  | bindKey => obtain rfl := Host.Outcome.next.inj h; exact ht

/-- A completion that sets AUTH_OK is that of a CHECK whose checks pass and whose tags match. -/
theorem complete_sets_authOk {s t : State} (h : complete s = .next t) (hs : s.authOk = false)
    (ht : t.authOk = true) : ∃ n, decode s.debugMulh s.pend = .ok (.check n) ∧
      verdictTag n s = .perform ∧ tagMatches n s = true := by
  obtain ⟨i, u, hd, hx, rfl⟩ | ⟨e, -, rfl⟩ := complete_cases h
  · obtain heq | ⟨n, rfl, hv, rfl⟩ := exec_authOk_cases hx
    · exact absurd (hs.symm.trans (heq.symm.trans ht)) nofun
    · exact ⟨n, hd, hv, by simpa [effectCheck, hs] using ht⟩
  · exact absurd (hs.symm.trans ht) nofun

/-- The completion of a CHECK whose checks pass. -/
theorem complete_check {s : State} {n : Nat} (hd : decode s.debugMulh s.pend = .ok (.check n))
    (hv : verdictTag n s = .perform) : complete s = .next (retire (effectCheck n s)) := by
  rw [complete_of_decode hd, exec_eq_carryOut, commandVerdict, hv]
  rfl

/-- Settles O45: only a completion can set AUTH_OK, only that of CHECK does, and its comparison is that of the byte
strings. -/
theorem authOkOnlyAfterAMatchingCheck : Obligations.AuthOkOnlyAfterAMatchingCheck := by
  refine ⟨fun e s t h hs ht => ?_, fun s n hb hd hs h4 h16 hm => ?_, fun s t w hb h => ?_, rfl⟩
  · by_cases hb : e = .blockTurn
    · subst hb
      obtain ⟨hbusy, hc⟩ | rfl := blockTurn_cases h
      · obtain ⟨n, hd, hv, hm⟩ := complete_sets_authOk hc hs ht
        obtain ⟨hsess, h4, h16⟩ := verdictTag_perform.mp hv
        exact ⟨rfl, hbusy, n, hd, hsess, h4, h16, (tagMatches_iff n s).mp hm⟩
      · exact absurd (hs.symm.trans ht) nofun
    · exact absurd (hs.symm.trans (perform_authOk h hb ht)) nofun
  · refine ⟨_, (perform_blockTurn_busy hb).trans (complete_check hd (verdictTag_perform.mpr ⟨hs, h4, h16⟩)), ?_⟩
    simp [effectCheck, (tagMatches_iff n s).mpr hm]
  · obtain rfl := Host.Outcome.next.inj h
    rw [hostWrite_cmd, reply_authOk, writeCmd, hb]
    rfl

/-! ### CIV -/

theorem verdictIvblk_ne_noop (s : State) : verdictIvblk s ≠ .noop := by
  unfold verdictIvblk; split_ifs <;> nofun

theorem verdictStart_ne_noop (n : Nat) (s : State) : verdictStart n s ≠ .noop := by
  unfold verdictStart; split_ifs <;> nofun

/-- Only a data command of length 0 is a no-op. -/
theorem verdictData_noop {d : DMode} {n : Nat} {s : State} (h : verdictData d n s = .noop) : n = 0 := by
  unfold verdictData at h; split_ifs at h; assumption

/-- A command is performed, or it keeps CIV and, unless it is a no-op, reports an error. -/
theorem exec_civ_cases {i : Instr} {s t : State} (h : exec i s = .next t) :
    (commandVerdict i s = .perform ∧ t = commandEffect i s) ∨
      (t.civ = s.civ ∧ (t.err = .ok → commandVerdict i s = .noop)) := by
  obtain ⟨e, hv, rfl⟩ | ⟨-, rfl⟩ | ⟨hv, rfl⟩ | hp := exec_cases h
  · refine .inr ⟨rfl, fun he => ?_⟩
    obtain rfl : e = .ok := he
    simpa using refuse_code hv
  · exact .inr ⟨rfl, nofun⟩
  · exact .inr ⟨rfl, fun _ => hv⟩
  · exact .inl hp

/-- The upper 96 bits are the IV's (41_ghash.md R174). -/
theorem inc32_upper (v : Block) : (inc32 v).extractLsb' 32 96 = v.extractLsb' 32 96 :=
  BitVec.extractLsb'_append_eq_left

/-- ENC and DEC, by their verdict and effect. -/
theorem exec_civ_of_ctr {i : Instr} {d : DMode} {n : Nat} {s t : State} (h : exec i s = .next t)
    (hverdict : commandVerdict i s = verdictData d n s) (hciv : (commandEffect i s).civ = inc32 s.civ)
    (herr : (commandEffect i s).err = .ok) :
    t.civ = if t.err = .ok ∧ n ≠ 0 then inc32 s.civ else s.civ := by
  obtain ⟨hv, rfl⟩ | ⟨hkeep, hok⟩ := exec_civ_cases h
  · obtain ⟨-, -, -, -, hn, -⟩ := verdictData_perform.mp (hverdict.symm.trans hv)
    rw [if_pos ⟨herr, hn⟩, hciv]
  · rw [if_neg fun ⟨he, hn⟩ => hn (verdictData_noop (hverdict.symm.trans (hok he))), hkeep]

theorem exec_ivblk_civ {s t : State} (h : exec .ivblk s = .next t) :
    t.civ = if t.err = .ok ∧ s.sess ≠ .ivload then 0 else s.civ := by
  obtain ⟨-, rfl⟩ | ⟨hkeep, hok⟩ := exec_civ_cases h
  · have herr : (effectIvblk s).err = .ok := rfl
    show (beginIv s).civ = if (effectIvblk s).err = .ok ∧ s.sess ≠ .ivload then 0 else s.civ
    by_cases hs : s.sess = .ivload <;> simp [herr, hs]
  · rw [if_neg fun ⟨he, _⟩ => verdictIvblk_ne_noop s (hok he), hkeep]

theorem exec_start_civ {n : Nat} {s t : State} (h : exec (.start n) s = .next t) :
    t.civ = if t.err = .ok then startJ0 n s else s.civ := by
  obtain ⟨-, rfl⟩ | ⟨hkeep, hok⟩ := exec_civ_cases h
  · rfl
  · rw [if_neg fun he => verdictStart_ne_noop n s (hok he), hkeep]

/-- A command other than START that leaves a session open has kept CIV or advanced it once. -/
theorem exec_civ_in_session {i : Instr} {s t : State} (h : exec i s = .next t) (hi : ∀ n, i ≠ .start n)
    (ht : t.sess = .started) : t.civ = s.civ ∨ t.civ = inc32 s.civ := by
  obtain ⟨-, rfl⟩ | ⟨hkeep, -⟩ := exec_civ_cases h
  · cases i with
    | genh => cases ht
    | loadh => cases ht
    | ivblk => cases ht
    | start n => exact absurd rfl (hi n)
    | enc n => exact .inr rfl
    | dec n => exact .inr rfl
    | _ => exact .inl rfl
  · exact .inl hkeep

/-- Settles O43: CIV by the command, and inside a session `inc32` keeps the upper 96 bits. -/
theorem counterBlockMovesOnlyAsSaid : Obligations.CounterBlockMovesOnlyAsSaid := by
  intro i s t h
  refine ⟨?_, fun hi _ ht => ?_⟩
  · cases i with
    | genh => obtain rfl := Host.Outcome.next.inj h; rfl
    | loadh => obtain rfl := Host.Outcome.next.inj h; rfl
    | ivblk => exact exec_ivblk_civ h
    | start n => exact exec_start_civ h
    | enc n => exact exec_civ_of_ctr h rfl rfl rfl
    | dec n => exact exec_civ_of_ctr h rfl rfl rfl
    | _ => exact exec_keeps_of_effect State.civ (fun _ _ => rfl) rfl h
  · obtain hkeep | hnext := exec_civ_in_session h hi ht
    · rw [hkeep]
    · rw [hnext, inc32_upper]

end Sys2Proof.Machine
end

section
/-! Proofs about the register window and the cipher port (spec/20_memory.md): the register map, bad accesses, reads while
a command is in flight, and which commands make a cipher request. -/

namespace Sys2Proof.Machine

open Sys2Proof

/-! ### Accesses of the window -/

/-- The accesses that exist (20_memory.md R78). -/
theorem accessLegal_iff {w : Width} {off : BitVec 8} : accessLegal w off = true ↔ w = .w32 ∧ off.toNat % 4 = 0 := by
  simp [accessLegal]

theorem hostRead_of_legal {w : Width} {off : BitVec 8} (h : accessLegal w off = true) (s : State) :
    hostRead w off s = reply ⟨busRead off s, false⟩ s := if_pos h

theorem hostRead_of_illegal {w : Width} {off : BitVec 8} (h : ¬ accessLegal w off = true) (s : State) :
    hostRead w off s = reply ⟨0, true⟩ s := if_neg h

theorem hostWrite_of_legal {w : Width} {off : BitVec 8} (h : accessLegal w off = true) (v : Word) (s : State) :
    hostWrite w off v s = reply ⟨0, false⟩ (busWrite off v s) := if_pos h

theorem hostWrite_of_illegal {w : Width} {off : BitVec 8} (h : ¬ accessLegal w off = true) (v : Word) (s : State) :
    hostWrite w off v s = reply ⟨0, true⟩ s := if_neg h

/-- Settles O12: an access of another width or alignment is not legal, so it only gets the error reply. -/
theorem badAccessChangesNothing : Obligations.BadAccessChangesNothing := by
  intro s w off v hbad
  have hill : ¬ accessLegal w off = true := fun h => by
    obtain ⟨hw, halign⟩ := accessLegal_iff.mp h
    exact hbad.elim (· hw) (· halign)
  exact ⟨congrArg Host.Outcome.next (hostRead_of_illegal hill s),
    congrArg Host.Outcome.next (hostWrite_of_illegal hill v s)⟩

/-! ### Where the words of DIN and DOUT are -/

theorem busRead_din {k : Nat} (hk : k ≤ 3) (s : State) : busRead (BitVec.ofNat 8 (0x10 + 4 * k)) s = wordAt s.din k := by
  interval_cases k <;> rfl

theorem busRead_dout {k : Nat} (hk : k ≤ 3) (s : State) :
    busRead (BitVec.ofNat 8 (0x20 + 4 * k)) s = wordAt s.dout k := by
  interval_cases k <;> rfl

/-- A slice that lies inside a slice is one of the whole. -/
theorem extractLsb'_of_extractLsb' {w p q m n : Nat} (x : BitVec w) (h : q + n ≤ m) :
    (x.extractLsb' p m).extractLsb' q n = x.extractLsb' (p + q) n := by
  ext i hi
  have hm : q + i < m := by omega
  simp [hm, Nat.add_assoc]

/-- Byte `j` of a block is byte `j mod 4` of its word `⌊j/4⌋`, the first the most significant (20_memory.md R73). -/
theorem byteAt_eq_extract_wordAt (b : Block) {j : Nat} (hj : j ≤ 15) :
    byteAt b j = (wordAt b (j / 4)).extractLsb' (24 - 8 * (j % 4)) 8 := by
  have hplace : 120 - 8 * j = 96 - 32 * (j / 4) + (24 - 8 * (j % 4)) := by omega
  have hinside : 24 - 8 * (j % 4) + 8 ≤ 32 := by omega
  rw [byteAt, wordAt, extractLsb'_of_extractLsb' _ hinside, hplace]

/-- A block as the integer of its four words. -/
theorem block_toNat_eq_words (b : Block) : b.toNat = (wordAt b 0).toNat * 2 ^ 96 + (wordAt b 1).toNat * 2 ^ 64 +
    (wordAt b 2).toNat * 2 ^ 32 + (wordAt b 3).toNat := by
  have hb := b.isLt
  simp only [wordAt, BitVec.extractLsb'_toNat, Nat.shiftRight_eq_div_pow]
  omega

/-- Settles O10: the window shows word `⌊j/4⌋` at the offset of byte `j`, and a block is its four words. -/
theorem blockWordsArePackedMostSignificantFirst : Obligations.BlockWordsArePackedMostSignificantFirst := by
  refine fun s => ⟨fun j hj => ?_, block_toNat_eq_words s.din, block_toNat_eq_words s.dout⟩
  have hk : j / 4 ≤ 3 := by omega
  rw [busRead_din hk, busRead_dout hk]
  exact ⟨byteAt_eq_extract_wordAt _ hj, byteAt_eq_extract_wordAt _ hj⟩

/-! ### The rest of the register map -/

/-- A 64-bit counter as its low and its high word. -/
theorem counter_toNat_eq_words (c : BitVec 64) :
    c.toNat = (c.extractLsb' 0 32).toNat + 2 ^ 32 * (c.extractLsb' 32 32).toNat := by
  have hc := c.isLt
  simp only [BitVec.extractLsb'_toNat, Nat.shiftRight_eq_div_pow]
  omega

theorem busRead_reserved {off : BitVec 8} (h : 0x44 ≤ off.toNat) (s : State) : busRead off s = 0 := by
  unfold busRead
  split
  iterate 14 · omega
  · rfl

/-- All that a legal write can do, with the word of DIN it replaces. -/
theorem busWrite_word_cases (off : BitVec 8) (v : Word) (s : State) :
    (off = 0x00 ∧ busWrite off v s = writeCmd v s) ∨ (off = 0x04 ∧ busWrite off v s = writeStatus v s) ∨
      (∃ k ≤ 3, off = BitVec.ofNat 8 (0x10 + 4 * k) ∧ busWrite off v s = { s with din := setWordAt s.din k v }) ∨
      busWrite off v s = s := by
  unfold busWrite
  split <;> rename_i h
  · exact .inl ⟨BitVec.eq_of_toNat_eq h, rfl⟩
  · exact .inr (.inl ⟨BitVec.eq_of_toNat_eq h, rfl⟩)
  · exact .inr (.inr (.inl ⟨0, by decide, BitVec.eq_of_toNat_eq h, rfl⟩))
  · exact .inr (.inr (.inl ⟨1, by decide, BitVec.eq_of_toNat_eq h, rfl⟩))
  · exact .inr (.inr (.inl ⟨2, by decide, BitVec.eq_of_toNat_eq h, rfl⟩))
  · exact .inr (.inr (.inl ⟨3, by decide, BitVec.eq_of_toNat_eq h, rfl⟩))
  · exact .inr (.inr (.inr rfl))

/-- A write to a read-only or reserved offset is ignored (20_memory.md R75). -/
theorem busWrite_ignored {off : BitVec 8} (hcmd : off ≠ 0x00) (hstatus : off ≠ 0x04)
    (hdin : ∀ k ≤ 3, off ≠ BitVec.ofNat 8 (0x10 + 4 * k)) (v : Word) (s : State) : busWrite off v s = s := by
  obtain ⟨hoff, -⟩ | ⟨hoff, -⟩ | ⟨k, hk, hoff, -⟩ | hkeep := busWrite_word_cases off v s
  · exact absurd hoff hcmd
  · exact absurd hoff hstatus
  · exact absurd hoff (hdin k hk)
  · exact hkeep

/-- Settles O11: the counters are their two words, and legal accesses elsewhere leave the block as it is. -/
theorem otherOffsetsReadAndIgnoreWrites : Obligations.OtherOffsetsReadAndIgnoreWrites := by
  refine ⟨fun s => ⟨counter_toNat_eq_words s.lenA, counter_toNat_eq_words s.lenC, rfl, rfl, rfl, rfl⟩,
    fun s off h => busRead_reserved h s, fun s off halign => ?_, fun s off v halign hcmd hstatus h0 h1 h2 h3 => ?_⟩
  · exact congrArg Host.Outcome.next (hostRead_of_legal (accessLegal_iff.mpr ⟨rfl, halign⟩) s)
  · have hdin : ∀ k ≤ 3, off ≠ BitVec.ofNat 8 (0x10 + 4 * k) := by
      intro k hk
      interval_cases k <;> assumption
    have hwrite := hostWrite_of_legal (accessLegal_iff.mpr ⟨rfl, halign⟩) v s
    rw [busWrite_ignored hcmd hstatus hdin] at hwrite
    exact congrArg Host.Outcome.next hwrite

/-! ### Reads while a command is in flight -/

/-- Outside STATUS and DIN the window shows DOUT and the counters only. -/
theorem busRead_eq_of_results {s t : State} {off : BitVec 8} (hoff : off ≠ 0x04)
    (hdin : t.din = s.din ∨ off.toNat < 0x10 ∨ 0x20 ≤ off.toNat) (hdout : t.dout = s.dout) (hlenA : t.lenA = s.lenA)
    (hlenC : t.lenC = s.lenC) (hblk : t.blkCnt = s.blkCnt) : busRead off t = busRead off s := by
  have hne : off.toNat ≠ 0x04 := fun h => hoff (BitVec.eq_of_toNat_eq h)
  obtain hdin | hout := hdin
  · simp only [busRead, hdin, hdout, hlenA, hlenC, hblk]
    split
    · contradiction
    all_goals rfl
  · simp only [busRead, hdout, hlenA, hlenC, hblk]
    split
    · contradiction
    iterate 4 · omega
    all_goals rfl

theorem ofBool_or_one (b : Bool) : BitVec.ofBool b ||| 1#1 = 1#1 := by cases b <;> rfl

/-- BUSY is bit 0 and AUTH_OK is bit 8 of STATUS (10_state.md R54): the two masks are cut along the fields. -/
theorem statusWord_accept (w : Word) (s : State) :
    statusWord (accept w s) = (statusWord s ||| 0x00000001) &&& ~~~(0x00000100 : Word) := by
  have hbit0 : (0x00000001 : Word) = 0#21 ++ 0#1 ++ 0#1 ++ 0#1 ++ 0#3 ++ 0#1 ++ 0#3 ++ 1#1 := rfl
  have hmask8 : ~~~(0x00000100 : Word) = BitVec.allOnes 21 ++ BitVec.allOnes 1 ++ BitVec.allOnes 1 ++ 0#1 ++
    BitVec.allOnes 3 ++ BitVec.allOnes 1 ++ BitVec.allOnes 3 ++ BitVec.allOnes 1 := rfl
  rw [hbit0, hmask8, statusWord, statusWord]
  iterate 7 rw [BitVec.or_append, BitVec.and_append]
  simp [ofBool_or_one, -BitVec.reduceAllOnes]

/-- OVR is bit 9 of STATUS. -/
theorem statusWord_or_ovr (s : State) : statusWord s ||| 0x00000200 = statusWord { s with ovr := true } := by
  have hbit9 : (0x00000200 : Word) = 0#21 ++ 0#1 ++ 1#1 ++ 0#1 ++ 0#3 ++ 0#1 ++ 0#3 ++ 0#1 := rfl
  rw [hbit9, statusWord, statusWord]
  iterate 7 rw [BitVec.or_append]
  simp [ofBool_or_one]

/-- A 32-bit write to a word of DIN. -/
def IsDinWrite (e : HostEvent) : Prop := ∃ k v, k ≤ 3 ∧ e = .write .w32 (BitVec.ofNat 8 (0x10 + 4 * k)) v

/-- A write while BUSY = 1 moves the reply, and OVR or a word of DIN. -/
theorem hostWrite_busy {s : State} (hb : s.busy = true) (w : Width) (off : BitVec 8) (v : Word) :
    ∃ d o r, hostWrite w off v s = { s with din := d, ovr := o, replies := r } ∧
      (d = s.din ∨ IsDinWrite (.write w off v)) := by
  by_cases hl : accessLegal w off = true
  · obtain ⟨rfl, -⟩ := accessLegal_iff.mp hl
    rw [hostWrite_of_legal hl]
    obtain ⟨-, hw⟩ | ⟨-, hw⟩ | ⟨k, hk, rfl, hw⟩ | hw := busWrite_word_cases off v s
    · obtain ⟨-, hc⟩ | ⟨hidle, -⟩ := writeCmd_cases v s
      · rw [hw, hc]; exact ⟨s.din, true, _, rfl, .inl rfl⟩
      · exact absurd (hb.symm.trans hidle) nofun
    · rw [hw]; exact ⟨s.din, _, _, rfl, .inl rfl⟩
    · rw [hw]; exact ⟨_, s.ovr, _, rfl, .inr ⟨k, v, hk, rfl⟩⟩
    · rw [hw]; exact ⟨s.din, s.ovr, _, rfl, .inl rfl⟩
  · rw [hostWrite_of_illegal hl]; exact ⟨s.din, s.ovr, _, rfl, .inl rfl⟩

/-- All that an event other than the completion and Reset can move while BUSY = 1 (70_reset_and_hazards.md R348
to R351). -/
theorem perform_busy_cases {e : HostEvent} {s t : State} (hb : s.busy = true) (h : perform e s = .next t)
    (hturn : e ≠ .blockTurn) (hreset : e ≠ .reset) :
    ∃ d o k p r, t = { s with din := d, ovr := o, keyEpoch := k, keyPort := p, replies := r } ∧
      (d = s.din ∨ IsDinWrite e) := by
  cases e with
  | read w off =>
    obtain ⟨r, hr⟩ := hostRead_reply w off s
    obtain rfl := Host.Outcome.next.inj h
    rw [hr]; exact ⟨s.din, s.ovr, s.keyEpoch, s.keyPort, _, rfl, .inl rfl⟩
  | write w off v =>
    obtain rfl := Host.Outcome.next.inj h
    obtain ⟨d, o, r, hw, hd⟩ := hostWrite_busy hb w off v
    exact ⟨d, o, s.keyEpoch, s.keyPort, r, hw, hd⟩
  | blockTurn => exact absurd rfl hturn
  | reset => exact absurd rfl hreset
  | bindKey =>
    obtain rfl := Host.Outcome.next.inj h
    exact ⟨s.din, s.ovr, _, _, s.replies, rfl, .inl rfl⟩

/-- Settles O14: acceptance moves no register the window shows but BUSY and AUTH_OK, and until the completion only OVR and
DIN move. -/
theorem readsWhileBusySeeOldValues : Obligations.ReadsWhileBusySeeOldValues := by
  refine ⟨fun s t w hb h => ?_, fun e s t hb h hturn hreset => ?_⟩
  · obtain ⟨hbusy, -⟩ | ⟨-, hc⟩ := writeCmd_cases w s
    · exact absurd (hb.symm.trans hbusy) nofun
    · obtain rfl := Host.Outcome.next.inj h
      rw [hostWrite_cmd, hc]
      exact ⟨fun off hoff => busRead_eq_of_results hoff (.inl rfl) rfl rfl rfl rfl, statusWord_accept w s⟩
  · obtain ⟨d, o, k, p, r, rfl, hd⟩ := perform_busy_cases hb h hturn hreset
    refine ⟨?_, fun off hoff hout => busRead_eq_of_results hoff (.inr hout) rfl rfl rfl rfl, fun hno off hoff => ?_⟩
    · exact (statusWord_or_ovr _).trans (statusWord_or_ovr s).symm
    · have hsame : d = s.din := hd.resolve_right fun ⟨k, v, hk, he⟩ => hno k v hk he
      exact busRead_eq_of_results hoff (.inl hsame) rfl rfl rfl rfl

/-! ### Cipher requests -/

/-- A command is performed, or it moves STATE and ERR only and reports OK only as a no-op. -/
theorem exec_performed_or_kept {i : Instr} {s t : State} (h : exec i s = .next t) :
    (commandVerdict i s = .perform ∧ t = commandEffect i s) ∨
      ∃ x e, t = { s with sess := x, err := e } ∧ (e = .ok → commandVerdict i s = .noop) := by
  obtain ⟨e, hv, rfl⟩ | ⟨-, rfl⟩ | ⟨hv, rfl⟩ | hp := exec_cases h
  · refine .inr ⟨s.sess, e, rfl, ?_⟩
    rintro rfl
    simpa using refuse_code hv
  · exact .inr ⟨.fault, .limit, rfl, nofun⟩
  · exact .inr ⟨s.sess, .ok, rfl, fun _ => hv⟩
  · exact .inl hp

@[simp] theorem beginIv_cipherLog (s : State) : (beginIv s).cipherLog = s.cipherLog := by
  unfold beginIv; split <;> rfl

/-- A successful START requests E(J0), and J0 is the CIV it leaves (42_session.md R201). -/
theorem exec_start_cipherLog {n : Nat} {s t : State} (h : exec (.start n) s = .next t) :
    t.cipherLog = (if t.err = .ok then [t.civ] else []) ++ s.cipherLog := by
  obtain ⟨-, rfl⟩ | ⟨x, e, rfl, hok⟩ := exec_performed_or_kept h
  · rfl
  · rw [if_neg fun he => verdictStart_ne_noop n s (hok he), List.nil_append]

/-- ENC and DEC, by their verdict and effect: one request for the advanced counter block. -/
theorem exec_cipherLog_of_ctr {i : Instr} {d : DMode} {n : Nat} {s t : State} (h : exec i s = .next t)
    (hverdict : commandVerdict i s = verdictData d n s)
    (hlog : (commandEffect i s).cipherLog = inc32 s.civ :: s.cipherLog) (herr : (commandEffect i s).err = .ok) :
    t.cipherLog = (if t.err = .ok ∧ n ≠ 0 then [inc32 s.civ] else []) ++ s.cipherLog := by
  obtain ⟨hv, rfl⟩ | ⟨x, e, rfl, hok⟩ := exec_performed_or_kept h
  · obtain ⟨-, -, -, -, hn, -⟩ := verdictData_perform.mp (hverdict.symm.trans hv)
    rw [if_pos ⟨herr, hn⟩, hlog, List.singleton_append]
  · rw [if_neg fun ⟨he, hn⟩ => hn (verdictData_noop (hverdict.symm.trans (hok he))), List.nil_append]

/-- Settles O46: only the effects of GENH, START, ENC and DEC add to the record, each one block. -/
theorem cipherRequestsAreExactlyTheListedOnes : Obligations.CipherRequestsAreExactlyTheListedOnes := by
  intro i s t h
  cases i with
  | genh => obtain rfl := Host.Outcome.next.inj h; rfl
  | start n => exact exec_start_cipherLog h
  | enc n => exact exec_cipherLog_of_ctr h rfl rfl rfl
  | dec n => exact exec_cipherLog_of_ctr h rfl rfl rfl
  | ivblk => exact exec_keeps_of_effect (i := .ivblk) State.cipherLog (fun _ _ => rfl) (beginIv_cipherLog s) h
  | _ => exact exec_keeps_of_effect State.cipherLog (fun _ _ => rfl) rfl h

end Sys2Proof.Machine
end

section
/-! Proofs about the command word (spec/30_encoding.md): decoding by the opcode table's mask and match, and the round trip
through `encode`. -/

namespace Sys2Proof

open Sys2Proof.Laws

/-! ### A word is its four fields -/

section

variable (w : Word)

theorem fieldRsv1_eq : fieldRsv1 w = w.toNat / 2 ^ 13 % 2 ^ 19 := by
  rw [fieldRsv1, BitVec.extractLsb'_toNat, Nat.shiftRight_eq_div_pow]
theorem fieldLen_eq : fieldLen w = w.toNat / 2 ^ 8 % 2 ^ 5 := by
  rw [fieldLen, BitVec.extractLsb'_toNat, Nat.shiftRight_eq_div_pow]
theorem fieldRsv0_eq : fieldRsv0 w = w.toNat / 2 ^ 4 % 2 ^ 4 := by
  rw [fieldRsv0, BitVec.extractLsb'_toNat, Nat.shiftRight_eq_div_pow]
theorem fieldOp_eq : fieldOp w = w.toNat % 2 ^ 4 := by
  rw [fieldOp, BitVec.extractLsb'_toNat, Nat.shiftRight_zero]

end

/-- The fields of 30_encoding.md R101 cover the word. -/
theorem word_eq_iff_fields {v w : Word} : v = w ↔
    fieldRsv1 v = fieldRsv1 w ∧ fieldLen v = fieldLen w ∧ fieldRsv0 v = fieldRsv0 w ∧ fieldOp v = fieldOp w := by
  simp only [fieldRsv1_eq, fieldLen_eq, fieldRsv0_eq, fieldOp_eq, ← BitVec.toNat_inj]
  omega

/-! ### Fields of a row's match value and of a word under a row's mask -/

section

variable (i : Instr)

theorem opcode_lt : i.opcode < 16 := by cases i <;> simp [Instr.opcode]

@[simp] theorem rowMatch_toNat : i.rowMatch.toNat = i.opcode :=
  Nat.mod_eq_of_lt (Nat.lt_trans (opcode_lt i) (by decide))

@[simp] theorem fieldRsv1_rowMatch : fieldRsv1 i.rowMatch = 0 := by
  have hop := opcode_lt i
  rw [fieldRsv1_eq, rowMatch_toNat]; omega
@[simp] theorem fieldLen_rowMatch : fieldLen i.rowMatch = 0 := by
  have hop := opcode_lt i
  rw [fieldLen_eq, rowMatch_toNat]; omega
@[simp] theorem fieldRsv0_rowMatch : fieldRsv0 i.rowMatch = 0 := by
  have hop := opcode_lt i
  rw [fieldRsv0_eq, rowMatch_toNat]; omega
@[simp] theorem fieldOp_rowMatch : fieldOp i.rowMatch = i.opcode := by
  rw [fieldOp_eq, rowMatch_toNat]; exact Nat.mod_eq_of_lt (opcode_lt i)

end

section

variable (w : Word)

/-- A field inside a mask is read through it. -/
theorem extractLsb'_and_of_inside {m : Word} {start len : Nat} (h : m.extractLsb' start len = BitVec.allOnes len) :
    (w &&& m).extractLsb' start len = w.extractLsb' start len := by
  rw [BitVec.extractLsb'_and, h, BitVec.and_allOnes]

theorem fieldRsv1_lenMasked : fieldRsv1 (w &&& 0xFFFFE0FF) = fieldRsv1 w :=
  congrArg BitVec.toNat (extractLsb'_and_of_inside w rfl)
theorem fieldLen_lenMasked : fieldLen (w &&& 0xFFFFE0FF) = 0 := by
  have hmask : (0xFFFFE0FF : Word).extractLsb' 8 5 = 0#5 := rfl
  rw [fieldLen, BitVec.extractLsb'_and, hmask, BitVec.and_zero, BitVec.toNat_zero]
theorem fieldRsv0_lenMasked : fieldRsv0 (w &&& 0xFFFFE0FF) = fieldRsv0 w :=
  congrArg BitVec.toNat (extractLsb'_and_of_inside w rfl)
theorem fieldOp_lenMasked : fieldOp (w &&& 0xFFFFE0FF) = fieldOp w :=
  congrArg BitVec.toNat (extractLsb'_and_of_inside w rfl)

end

/-! ### Mask and match -/

theorem rowMask_classN {i : Instr} (h : i.operandClass = .n) : i.rowMask = BitVec.allOnes 32 := by
  rw [Instr.rowMask, h]; rfl

theorem rowMask_not_classN {i : Instr} (h : i.operandClass ≠ .n) : i.rowMask = 0xFFFFE0FF := by
  unfold Instr.rowMask
  split
  · contradiction
  all_goals rfl

theorem len_classN {i : Instr} (h : i.operandClass = .n) : i.len = 0 := by
  cases i with
  | nop | genh | loadh | mulh | ivblk => rfl
  | _ => cases h

/-- A word in a command's row with the command's LEN: reserved bits clear, and OP and LEN those of the command. -/
theorem row_iff_fields {w : Word} {i : Instr} : (w &&& i.rowMask = i.rowMatch ∧ fieldLen w = i.len) ↔
    fieldRsv1 w = 0 ∧ fieldRsv0 w = 0 ∧ fieldOp w = i.opcode ∧ fieldLen w = i.len := by
  by_cases hn : i.operandClass = .n
  · rw [rowMask_classN hn, BitVec.and_allOnes, word_eq_iff_fields, len_classN hn]
    simp only [fieldRsv1_rowMatch, fieldLen_rowMatch, fieldRsv0_rowMatch, fieldOp_rowMatch]
    tauto
  · rw [rowMask_not_classN hn, word_eq_iff_fields, fieldRsv1_lenMasked, fieldLen_lenMasked, fieldRsv0_lenMasked,
      fieldOp_lenMasked]
    simp only [fieldRsv1_rowMatch, fieldLen_rowMatch, fieldRsv0_rowMatch, fieldOp_rowMatch]
    tauto

/-! ### Decoding -/

theorem decodeClassN_eq_ok_iff {n : Nat} {i j : Instr} : decodeClassN n i = .ok j ↔ n = 0 ∧ i = j := by
  unfold decodeClassN
  split <;> simp [*]

/-- The opcode map read backwards (30_encoding.md R104, R106). -/
theorem decodeOp_eq_ok_iff {d : Bool} {op n : Nat} {i : Instr} :
    decodeOp d op n = .ok i ↔ op = i.opcode ∧ n = i.len ∧ i.present d = true := by
  constructor
  · intro h
    unfold decodeOp at h
    split at h
    case h_1 | h_2 | h_3 | h_5 =>
      obtain ⟨rfl, rfl⟩ := decodeClassN_eq_ok_iff.mp h
      exact ⟨rfl, rfl, rfl⟩
    case h_4 =>
      cases d with
      | false => cases h
      | true =>
        obtain ⟨rfl, rfl⟩ := decodeClassN_eq_ok_iff.mp h
        exact ⟨rfl, rfl, rfl⟩
    case h_13 => cases h
    all_goals
      obtain rfl := Except.ok.inj h
      exact ⟨rfl, rfl, rfl⟩
  · rintro ⟨rfl, rfl, hp⟩
    cases i with
    | mulh => exact if_pos hp
    | _ => rfl

/-- A word selects a command by its row's mask and match, its LEN and the command's presence (30_encoding.md R105). -/
theorem decode_eq_ok_iff {d : Bool} {w : Word} {i : Instr} : decode d w = .ok i ↔
    (w &&& i.rowMask = i.rowMatch ∧ fieldLen w = i.len) ∧ i.present d = true := by
  rw [row_iff_fields]
  unfold decode
  split
  · next hrsv =>
    refine iff_of_false nofun ?_
    rintro ⟨⟨hr1, hr0, -⟩, -⟩
    exact hrsv.elim (· hr1) (· hr0)
  · next hrsv =>
    obtain ⟨hr1, hr0⟩ : fieldRsv1 w = 0 ∧ fieldRsv0 w = 0 := by omega
    simp [decodeOp_eq_ok_iff, hr1, hr0, and_assoc]

/-- With `DEBUG_MULH` = 1 every command exists (40_gf128_table.md R146). -/
theorem present_true (i : Instr) : i.present true = true := by cases i <;> rfl

/-! ### Encoding -/

theorem encode_matches_row (i : Instr) : RowOfEncoding.Statement i := by
  cases i with
  | nop => exact RowOfEncoding.nop
  | genh => exact RowOfEncoding.genh
  | loadh => exact RowOfEncoding.loadh
  | mulh => exact RowOfEncoding.mulh
  | ivblk => exact RowOfEncoding.ivblk
  | start n => exact RowOfEncoding.start n
  | aad n => exact RowOfEncoding.aad n
  | enc n => exact RowOfEncoding.enc n
  | dec n => exact RowOfEncoding.dec n
  | ghashc n => exact RowOfEncoding.ghashc n
  | finish n => exact RowOfEncoding.finish n
  | check n => exact RowOfEncoding.check n

/-- As numbers, `(LEN << 8) | OP` is `256 * LEN + OP` (30_encoding.md R101). -/
theorem encode_toNat {i : Instr} (h : i.len ≤ 31) : (encode i).toNat = i.len * 2 ^ 8 + i.opcode := by
  have hop : i.opcode < 2 ^ 8 := Nat.lt_trans (opcode_lt i) (by decide)
  have hlen : i.len * 2 ^ 8 < 2 ^ 32 := by omega
  have hmod : i.len % 2 ^ 32 = i.len := Nat.mod_eq_of_lt (by omega)
  show (BitVec.ofNat 32 i.len <<< 8 ||| i.rowMatch).toNat = _
  rw [BitVec.toNat_or, BitVec.toNat_shiftLeft, BitVec.toNat_ofNat, hmod, rowMatch_toNat, Nat.shiftLeft_eq,
    Nat.mod_eq_of_lt hlen, ← Nat.shiftLeft_eq, Nat.shiftLeft_add_eq_or_of_lt hop]

theorem fieldLen_encode {i : Instr} (h : i.len ≤ 31) : fieldLen (encode i) = i.len := by
  have hop := opcode_lt i
  rw [fieldLen_eq, encode_toNat h]
  omega

/-! ### The obligations -/

/-- Settles O54: an encoded word lies in its command's row and carries its LEN, which is what `decode` reads. -/
theorem decodeOfEncodeIsTheCommand : Obligations.DecodeOfEncodeIsTheCommand := by
  intro d i hwf
  obtain ⟨hlen, hpresent⟩ := Bool.and_eq_true_iff.mp hwf
  exact decode_eq_ok_iff.mpr ⟨⟨encode_matches_row i hlen, fieldLen_encode (of_decide_eq_true hlen)⟩, hpresent⟩

/-- Settles O55: with `DEBUG_MULH` = 1 every command is present, and `decode` is the row test with the LEN field. -/
theorem wordSelectsCommandByMaskAndMatch : Obligations.WordSelectsCommandByMaskAndMatch := by
  intro w i
  rw [decode_eq_ok_iff, and_iff_left (present_true i), eq_comm (a := i.len), fieldLen]

/-- Settles O56: each is a closed evaluation of the decoder. -/
theorem spelledWordsDecode : Obligations.SpelledWordsDecode := by
  unfold Obligations.SpelledWordsDecode
  decide

end Sys2Proof
end

section
/-! Proofs about the field GF(2^128) (spec/40_gf128_table.md R130 to R142). A block is read as an element of
GF(2)[x] / P; there doubling is the product by x, and the bit-serial loop, the table and the 4-bit loop are read off as
products. Blocks with the same element are equal, so every law of the multiplier is a law of the ring. -/

namespace Sys2Proof.Machine

open Sys2Proof Polynomial

/-! ### The field's elements -/

/-- GF(2)[x] modulo P (40_gf128_table.md R130). -/
noncomputable abbrev FieldElem : Type := AdjoinRoot fieldP

/-- The class of x. -/
noncomputable abbrev fieldX : FieldElem := AdjoinRoot.root fieldP

/-- The element a block stands for: its polynomial modulo P (00_scope.md R9, 40_gf128_table.md R130). -/
noncomputable def blockElem (b : Block) : FieldElem := AdjoinRoot.mk fieldP (polyView b)

theorem blockElem_eq_iff {a b : Block} : blockElem a = blockElem b ↔ fieldP ∣ polyView a - polyView b := by
  rw [blockElem, blockElem, AdjoinRoot.mk_eq_mk]

/-- The product of R130 is the product of elements. -/
theorem isFieldProduct_iff {x y z : Block} : IsFieldProduct x y z ↔ blockElem x * blockElem y = blockElem z := by
  rw [IsFieldProduct, blockElem, blockElem, blockElem, ← map_mul, AdjoinRoot.mk_eq_mk]

/-- The field has characteristic 2. -/
theorem fieldElem_add_self (a : FieldElem) : a + a = 0 := by
  have htwo : (2 : ZMod 2) = 0 := rfl
  have h : (2 : FieldElem) = 0 := by
    rw [← map_ofNat (AdjoinRoot.of fieldP) 2, htwo, map_zero]
  rw [← two_mul, h, zero_mul]

theorem fieldElem_eq_of_add_eq_zero {a b : FieldElem} (h : a + b = 0) : a = b := by
  linear_combination h - fieldElem_add_self b

/-- Reduction modulo P (40_gf128_table.md R131). -/
theorem fieldX_pow_128 : fieldX ^ 128 = fieldX ^ 7 + fieldX ^ 2 + fieldX + 1 := by
  have hP : fieldP = X ^ 128 + X ^ 7 + X ^ 2 + X + 1 := by unfold fieldP; rfl
  have h := congrArg (AdjoinRoot.mk fieldP) hP
  simp only [AdjoinRoot.mk_self, map_add, map_pow, map_one, AdjoinRoot.mk_X] at h
  exact fieldElem_eq_of_add_eq_zero (by simpa only [add_assoc] using h.symm)

/-! ### Blocks with the same element are equal -/

theorem fieldP_monic : fieldP.Monic := by
  unfold fieldP; monicity!

theorem fieldP_degree : fieldP.degree = (128 : Nat) := by
  unfold fieldP; compute_degree!

theorem polyView_coeff (b : Block) (n : Nat) :
    (polyView b).coeff n = if n < 128 ∧ b.getLsbD (127 - n) then 1 else 0 := by
  have hterm (i : Nat) : (if b.getLsbD (127 - i) then (X : (ZMod 2)[X]) ^ i else 0).coeff n =
      if n = i then if b.getLsbD (127 - i) then 1 else 0 else 0 := by
    split <;> simp [coeff_X_pow]
  simp [polyView, finsetSum_coeff, hterm, ite_and]

theorem polyView_degree_lt (b : Block) : (polyView b).degree < fieldP.degree := by
  rw [fieldP_degree, degree_lt_iff_coeff_zero]
  intro n hn
  rw [polyView_coeff, if_neg fun h => absurd h.1 (Nat.not_lt.mpr hn)]

/-- Below the degree of the modulus, equal classes are equal polynomials. -/
theorem eq_of_adjoinRoot_mk_eq {R : Type*} [CommRing R] {f p q : R[X]} (hf : f.Monic) (hp : p.degree < f.degree)
    (hq : q.degree < f.degree) (h : AdjoinRoot.mk f p = AdjoinRoot.mk f q) : p = q := by
  by_contra hne
  refine AdjoinRoot.mk_ne_zero_of_degree_lt hf (sub_ne_zero.mpr hne) ?_ ?_
  · exact (degree_sub_le p q).trans_lt (max_lt hp hq)
  · rw [map_sub, h, sub_self]

theorem polyView_eq_of_blockElem_eq {a b : Block} (h : blockElem a = blockElem b) : polyView a = polyView b :=
  eq_of_adjoinRoot_mk_eq fieldP_monic (polyView_degree_lt a) (polyView_degree_lt b) h

/-- An element has one block: its polynomial of degree below 128 is determined, and so are the bits. -/
theorem blockElem_injective : Function.Injective blockElem := by
  intro a b h
  refine BitVec.eq_of_getLsbD_eq fun i hi => ?_
  have hc := congrArg (coeff · (127 - i)) (polyView_eq_of_blockElem_eq h)
  have hi' : 127 - (127 - i) = i := by omega
  have hn : 127 - i < 128 := by omega
  simp only [polyView_coeff, hn, hi', true_and] at hc
  revert hc
  cases a.getLsbD i <;> cases b.getLsbD i <;> decide

/-! ### Sums of powers of x -/

/-- The element with coefficients `f 0` to `f (n - 1)`. -/
noncomputable def bitSum (f : Nat → Bool) (n : Nat) : FieldElem :=
  ∑ i ∈ Finset.range n, if f i then fieldX ^ i else 0

theorem blockElem_eq_bitSum (b : Block) : blockElem b = bitSum (fun i => b.getLsbD (127 - i)) 128 := by
  rw [blockElem, polyView, bitSum, map_sum]
  refine Finset.sum_congr rfl fun i _ => ?_
  rw [apply_ite (AdjoinRoot.mk fieldP), map_pow, AdjoinRoot.mk_X, map_zero]

theorem bitSum_congr {f g : Nat → Bool} {n : Nat} (h : ∀ i < n, f i = g i) : bitSum f n = bitSum g n :=
  Finset.sum_congr rfl fun i hi => by rw [h i (Finset.mem_range.mp hi)]

theorem bitSum_false (n : Nat) : bitSum (fun _ => false) n = 0 := by
  simp [bitSum]

theorem bitSum_xor (f g : Nat → Bool) (n : Nat) : bitSum (fun i => f i ^^ g i) n = bitSum f n + bitSum g n := by
  rw [bitSum, bitSum, bitSum, ← Finset.sum_add_distrib]
  refine Finset.sum_congr rfl fun i _ => ?_
  cases f i <;> cases g i <;> simp [fieldElem_add_self]

theorem bitSum_add (f : Nat → Bool) (m n : Nat) :
    bitSum f (m + n) = bitSum f m + fieldX ^ m * bitSum (fun i => f (m + i)) n := by
  rw [bitSum, Finset.sum_range_add, bitSum, bitSum, Finset.mul_sum]
  simp [pow_add]

theorem bitSum_one (f : Nat → Bool) : bitSum f 1 = if f 0 then 1 else 0 := by
  simp [bitSum]

/-- Horner's rule from the low coefficient. -/
theorem bitSum_succ (f : Nat → Bool) (n : Nat) :
    bitSum f (n + 1) = (if f 0 then 1 else 0) + fieldX * bitSum (fun i => f (i + 1)) n := by
  rw [Nat.add_comm n 1, bitSum_add, bitSum_one, pow_one]
  simp only [Nat.add_comm 1]

theorem bitSum_single (k n : Nat) (h : k < n) : bitSum (fun i => decide (i = k)) n = fieldX ^ k := by
  simp [bitSum, h]

/-! ### Elements of blocks -/

@[simp] theorem blockElem_zero : blockElem 0#128 = 0 := by
  simp only [blockElem_eq_bitSum, BitVec.getLsbD_zero, bitSum_false]

@[simp] theorem blockElem_xor (a b : Block) : blockElem (a ^^^ b) = blockElem a + blockElem b := by
  simp only [blockElem_eq_bitSum, BitVec.getLsbD_xor, bitSum_xor]

/-- The block of one power of x. -/
theorem blockElem_twoPow {k : Nat} (h : k < 128) : blockElem (BitVec.twoPow 128 (127 - k)) = fieldX ^ k := by
  rw [blockElem_eq_bitSum, ← bitSum_single k 128 h]
  refine bitSum_congr fun i hi => ?_
  rw [BitVec.getLsbD_twoPow, decide_eq_true (by omega), Bool.true_and]
  exact decide_eq_decide.mpr (by omega)

theorem blockElem_reductionR : blockElem reductionR = fieldX ^ 128 := by
  have h : reductionR = BitVec.twoPow 128 (127 - 7) ^^^ BitVec.twoPow 128 (127 - 2) ^^^
    BitVec.twoPow 128 (127 - 1) ^^^ BitVec.twoPow 128 (127 - 0) := by decide
  rw [h, blockElem_xor, blockElem_xor, blockElem_xor, blockElem_twoPow (by decide), blockElem_twoPow (by decide),
    blockElem_twoPow (by decide), blockElem_twoPow (by decide), fieldX_pow_128, pow_one, pow_zero]

/-- Shifting one place towards byte 15 multiplies by x and drops the coefficient of x^127. -/
theorem blockElem_ushiftRight_one (v : Block) :
    blockElem (v >>> 1) = fieldX * bitSum (fun i => v.getLsbD (127 - i)) 127 := by
  rw [blockElem_eq_bitSum, bitSum_succ, BitVec.getLsbD_ushiftRight, BitVec.getLsbD_of_ge v _ (by decide),
    if_neg Bool.false_ne_true, zero_add]
  refine congrArg (fieldX * ·) (bitSum_congr fun i hi => ?_)
  rw [BitVec.getLsbD_ushiftRight, show 1 + (127 - (i + 1)) = 127 - i by omega]

/-- Doubling is the product by x (40_gf128_table.md R133). -/
@[simp] theorem blockElem_mulx (v : Block) : blockElem (mulx v) = fieldX * blockElem v := by
  have h : blockElem v = bitSum (fun i => v.getLsbD (127 - i)) 127 + fieldX ^ 127 * if v.getLsbD 0 then 1 else 0 := by
    rw [blockElem_eq_bitSum, bitSum_add _ 127 1, bitSum_one]
  rw [h, mulx, blockElem_xor, blockElem_ushiftRight_one, mul_add, ← mul_assoc, ← pow_succ']
  cases v.getLsbD 0 <;> simp [blockElem_reductionR]

/-! ### The bit-serial loop -/

/-- After reading the top `128 - k` coefficients the loop still adds the rest of x times V (40_gf128_table.md R132). -/
theorem blockElem_gfmulLoop (x : Block) (k : Nat) (z v : Block) :
    blockElem (gfmulLoop x k z v) = blockElem z + bitSum (fun i => x.getLsbD (k - 1 - i)) k * blockElem v := by
  induction k generalizing z v with
  | zero => simp [gfmulLoop, bitSum]
  | succ k ih =>
    have hz : blockElem (if x.getLsbD k then z ^^^ v else z) =
        blockElem z + (if x.getLsbD k then 1 else 0) * blockElem v := by
      cases x.getLsbD k <;> simp
    have hrest : bitSum (fun i => x.getLsbD (k + 1 - 1 - (i + 1))) k = bitSum (fun i => x.getLsbD (k - 1 - i)) k :=
      bitSum_congr fun i _ => congrArg x.getLsbD (by omega)
    rw [gfmulLoop, ih, hz, blockElem_mulx, bitSum_succ, hrest, Nat.sub_zero, Nat.add_sub_cancel]
    ring

@[simp] theorem blockElem_gfmul (x y : Block) : blockElem (gfmul x y) = blockElem x * blockElem y := by
  rw [gfmul, blockElem_gfmulLoop, BitVec.ofNat_eq_ofNat, blockElem_zero, zero_add, blockElem_eq_bitSum x]

/-! ### Nibbles and the table -/

/-- `poly4` of a nibble (40_gf128_table.md R136). -/
noncomputable def nibbleElem (c : BitVec 4) : FieldElem := bitSum c.getLsbD 4

theorem nibbleElem_xor (a b : BitVec 4) : nibbleElem (a ^^^ b) = nibbleElem a + nibbleElem b := by
  rw [nibbleElem, nibbleElem, nibbleElem, ← bitSum_xor]
  exact bitSum_congr fun i _ => BitVec.getLsbD_xor

theorem nibbleElem_zero : nibbleElem 0 = 0 :=
  (bitSum_congr fun _ _ => BitVec.getLsbD_zero).trans (bitSum_false 4)

theorem nibbleElem_twoPow {k : Nat} (hk : k < 4) : nibbleElem (BitVec.twoPow 4 k) = fieldX ^ k := by
  rw [nibbleElem, ← bitSum_single k 4 hk]
  refine bitSum_congr fun i hi => ?_
  rw [BitVec.getLsbD_twoPow, decide_eq_true hk, Bool.true_and]
  exact decide_eq_decide.mpr eq_comm

theorem rev4_getLsbD (c : BitVec 4) {j : Nat} (hj : j < 4) : (rev4 c).getLsbD j = c.getLsbD (3 - j) := by
  revert c; interval_cases j <;> decide

theorem nib_getLsbD (x : Block) {n j : Nat} (hn : n < 32) (hj : j < 4) :
    (nib x n).getLsbD j = x.getLsbD (127 - (4 * n + j)) := by
  have hbit : 124 - 4 * n + (3 - j) = 127 - (4 * n + j) := by omega
  rw [nib, rev4_getLsbD _ hj, BitVec.getLsbD_extractLsb', hbit, decide_eq_true (by omega), Bool.true_and]

/-- Only the first four places of a nibble's shifted block hold coefficients (40_gf128_table.md R135). -/
theorem nibbleBlock_getLsbD (i : BitVec 4) {j : Nat} (hj : j < 128) :
    ((rev4 i).zeroExtend 128 <<< 124).getLsbD (127 - j) = i.getLsbD j := by
  rw [BitVec.getLsbD_shiftLeft, BitVec.getLsbD_setWidth]
  by_cases h : j < 4
  · rw [show 127 - j - 124 = 3 - j by omega, rev4_getLsbD i (by omega), show 3 - (3 - j) = j by omega]
    have h124 : ¬ 127 - j < 124 := by omega
    have h128 : 127 - j < 128 ∧ 3 - j < 128 := by omega
    simp [h124, h128]
  · have h124 : 127 - j < 124 := by omega
    rw [BitVec.getLsbD_of_ge i j (by omega)]
    simp [h124]

/-- The block of `poly4(i)` (40_gf128_table.md R135). -/
theorem blockElem_nibbleBlock (i : BitVec 4) : blockElem ((rev4 i).zeroExtend 128 <<< 124) = nibbleElem i := by
  have hhigh : bitSum (fun j => i.getLsbD (4 + j)) 124 = 0 := by
    rw [← bitSum_false 124]
    exact bitSum_congr fun j _ => BitVec.getLsbD_of_ge i (4 + j) (Nat.le_add_right 4 j)
  rw [blockElem_eq_bitSum, bitSum_congr fun j hj => nibbleBlock_getLsbD i hj, bitSum_add i.getLsbD 4 124, hhigh,
    mul_zero, add_zero, nibbleElem]

/-- Doubling an index, with a new lowest bit, multiplies `poly4` by x. -/
theorem nibbleElem_bit {i j : BitVec 4} {b : Bool} (h : j.toNat = Nat.bit b i.toNat) :
    nibbleElem j = (if b then 1 else 0) + fieldX * nibbleElem i := by
  have hlow : j.getLsbD 0 = b := (congrArg (Nat.testBit · 0) h).trans (Nat.testBit_bit_zero b _)
  have hshift (k : Nat) : j.getLsbD (k + 1) = i.getLsbD k :=
    (congrArg (Nat.testBit · (k + 1)) h).trans (Nat.testBit_bit_succ k b _)
  have htop : bitSum j.getLsbD (4 + 1) = bitSum j.getLsbD 4 := by
    rw [bitSum_add, bitSum_one, BitVec.getLsbD_of_ge j _ (le_refl 4), if_neg Bool.false_ne_true, mul_zero, add_zero]
  rw [nibbleElem, ← htop, bitSum_succ, hlow]
  simp only [hshift]
  rfl

/-- The entries below `n` are the multiples of H that 40_gf128_table.md R135 says. -/
def TableUpTo (h : Block) (n : Nat) (m : Table) : Prop :=
  ∀ j : BitVec 4, j.toNat < n → blockElem (tableAt m j) = nibbleElem j * blockElem h

theorem tableAt_genTableStep (h : Block) (m : Table) (i j : BitVec 4) :
    tableAt (genTableStep h m i) j =
      if 2 * i.toNat + 1 = j.toNat then mulx (tableAt m i) ^^^ h
      else if 2 * i.toNat = j.toNat then mulx (tableAt m i) else tableAt m j := by
  rw [tableAt, genTableStep, Vector.getElem_setIfInBounds, Vector.getElem_setIfInBounds]
  rfl

/-- One turn of the loop of 40_gf128_table.md R134 fills two more entries. -/
theorem genTableStep_upTo {h : Block} {m : Table} {i : BitVec 4} (hi : 0 < i.toNat)
    (hm : TableUpTo h (2 * i.toNat) m) : TableUpTo h (2 * i.toNat + 2) (genTableStep h m i) := by
  intro j hj
  have hmi := hm i (by omega)
  rw [tableAt_genTableStep]
  split_ifs with hodd heven
  · have hbit : j.toNat = Nat.bit true i.toNat := hodd.symm
    rw [blockElem_xor, blockElem_mulx, hmi, nibbleElem_bit hbit, if_pos rfl]
    ring
  · have hbit : j.toNat = Nat.bit false i.toNat := heven.symm
    rw [blockElem_mulx, hmi, nibbleElem_bit hbit, if_neg Bool.false_ne_true]
    ring
  · exact hm j (by omega)

theorem genTable_start_upTo (h : Block) : TableUpTo h 2 ((Vector.replicate 16 0).setIfInBounds 1 h) := by
  intro j hj
  obtain rfl | rfl : j = 0 ∨ j = 1 := by bv_omega
  · have h0 : tableAt ((Vector.replicate 16 0).setIfInBounds 1 h) 0 = 0#128 := rfl
    rw [h0, blockElem_zero, nibbleElem_zero, zero_mul]
  · have h1 : tableAt ((Vector.replicate 16 0).setIfInBounds 1 h) 1 = h := rfl
    rw [h1, show (1 : BitVec 4) = BitVec.twoPow 4 0 from rfl, nibbleElem_twoPow (by decide), pow_zero, one_mul]

/-- Every entry of the table is its index's polynomial times H (40_gf128_table.md R135). -/
theorem blockElem_tableAt_genTable (h : Block) (i : BitVec 4) :
    blockElem (tableAt (genTable h) i) = nibbleElem i * blockElem h := by
  have h1 := genTableStep_upTo (i := 1) (by decide) (genTable_start_upTo h)
  have h2 := genTableStep_upTo (i := 2) (by decide) h1
  have h3 := genTableStep_upTo (i := 3) (by decide) h2
  have h4 := genTableStep_upTo (i := 4) (by decide) h3
  have h5 := genTableStep_upTo (i := 5) (by decide) h4
  have h6 := genTableStep_upTo (i := 6) (by decide) h5
  have h7 := genTableStep_upTo (i := 7) (by decide) h6
  exact h7 i i.isLt

theorem blockElem_tableAt_twoPow (h : Block) {k : Nat} (hk : k < 4) :
    blockElem (tableAt (genTable h) (BitVec.twoPow 4 k)) = fieldX ^ k * blockElem h := by
  rw [blockElem_tableAt_genTable, nibbleElem_twoPow hk]

/-! ### The 4-bit loop -/

/-- Doubling moves the low bits down and folds R back in far above them. -/
theorem mulx_getLsbD_low (v : Block) {i : Nat} (hi : i < 3) : (mulx v).getLsbD i = v.getLsbD (1 + i) := by
  have hR : reductionR.getLsbD i = false := by interval_cases i <;> decide
  rw [mulx, BitVec.getLsbD_xor, BitVec.getLsbD_ushiftRight]
  cases v.getLsbD 0 <;> simp [hR]

/-- What the four low bits fold back in when they leave (40_gf128_table.md R138). -/
theorem red4_rev4_block (c : BitVec 4) : (red4 (rev4 c)).zeroExtend 128 <<< 112 =
    (((if c.getLsbD 0 then reductionR else 0) >>> 1 ^^^ (if c.getLsbD 1 then reductionR else 0)) >>> 1 ^^^
      (if c.getLsbD 2 then reductionR else 0)) >>> 1 ^^^ (if c.getLsbD 3 then reductionR else 0) := by
  revert c; decide

/-- Multiplication by x^4 is doubling four times (40_gf128_table.md R139). -/
theorem mulx4_eq (z : Block) : mulx4 z = mulx (mulx (mulx (mulx z))) := by
  have hlow (j : Nat) (hj : j < 4) : (z.extractLsb' 0 4).getLsbD j = z.getLsbD j := by
    simp [hj]
  -- each line opens one doubling and reads its low bits off the block it doubles
  rw [mulx4, red4_rev4_block, hlow 0 (by decide), hlow 1 (by decide), hlow 2 (by decide), hlow 3 (by decide)]
  rw [mulx, mulx_getLsbD_low _ (by decide), mulx_getLsbD_low _ (by decide), mulx_getLsbD_low _ (by decide)]
  rw [mulx, mulx_getLsbD_low _ (by decide), mulx_getLsbD_low _ (by decide)]
  rw [mulx, mulx_getLsbD_low _ (by decide)]
  rw [mulx]
  simp only [BitVec.ushiftRight_xor_distrib, ← BitVec.shiftRight_add, BitVec.xor_assoc]

@[simp] theorem blockElem_mulx4 (z : Block) : blockElem (mulx4 z) = fieldX ^ 4 * blockElem z := by
  rw [mulx4_eq, blockElem_mulx, blockElem_mulx, blockElem_mulx, blockElem_mulx]; ring

/-- After reading from the top down to nibble `n` the loop still adds the rest of X times H, and multiplies the sum so
far by x^4 for each nibble left (40_gf128_table.md R140). -/
theorem blockElem_mulHLoop (h x : Block) {n : Nat} (hn : n ≤ 32) (z : Block) :
    blockElem (mulHLoop (genTable h) x n z) =
      fieldX ^ (4 * n) * blockElem z + bitSum (fun i => x.getLsbD (127 - i)) (4 * n) * blockElem h := by
  induction n generalizing z with
  | zero => simp [mulHLoop, bitSum]
  | succ n ih =>
    have hnib : bitSum (fun j => x.getLsbD (127 - (4 * n + j))) 4 = nibbleElem (nib x n) :=
      bitSum_congr fun j hj => (nib_getLsbD x (by omega) hj).symm
    rw [mulHLoop, ih (by omega), blockElem_xor, blockElem_mulx4, blockElem_tableAt_genTable, Nat.mul_succ,
      bitSum_add, hnib, pow_add]
    ring

/-- The table multiply is the product by H (40_gf128_table.md R141). -/
@[simp] theorem blockElem_mulH (h x : Block) : blockElem (mulH (genTable h) x) = blockElem x * blockElem h := by
  rw [mulH, blockElem_mulHLoop h x (le_refl 32), BitVec.ofNat_eq_ofNat, blockElem_zero, mul_zero, zero_add,
    blockElem_eq_bitSum x]

/-! ### The obligations about the multiplier -/

theorem blockElem_blkOne : blockElem blkOne = 1 := by
  have h : blkOne = BitVec.twoPow 128 (127 - 0) := by decide
  rw [h, blockElem_twoPow (by decide), pow_zero]

/-- The block of x (40_gf128_table.md R133). -/
theorem blockElem_blkX : blockElem 0x40000000000000000000000000000000 = fieldX := by
  have h : (0x40000000000000000000000000000000 : Block) = BitVec.twoPow 128 (127 - 1) := by decide
  rw [h, blockElem_twoPow (by decide), pow_one]

/-- The block of x^4 (40_gf128_table.md R139). -/
theorem blockElem_blkX4 : blockElem 0x08000000000000000000000000000000 = fieldX ^ 4 := by
  have h : (0x08000000000000000000000000000000 : Block) = BitVec.twoPow 128 (127 - 4) := by decide
  rw [h, blockElem_twoPow (by decide)]

/-- Settles O17: the loop computes the product of the elements. -/
theorem bitSerialMultiplyIsThePolynomialProduct : Obligations.BitSerialMultiplyIsThePolynomialProduct :=
  fun x y => isFieldProduct_iff.mpr (blockElem_gfmul x y).symm

/-- Settles O16: both algorithms compute the product of the elements, and an element has one block. -/
theorem tableMultiplyIsTheFieldProduct : Obligations.TableMultiplyIsTheFieldProduct := fun h x =>
  ⟨blockElem_injective ((blockElem_mulH h x).trans (blockElem_gfmul x h).symm),
    isFieldProduct_iff.mpr (blockElem_mulH h x).symm⟩

/-- Settles O18: an entry is its index's polynomial times H, and that polynomial is additive in the index. -/
theorem tableEntriesAreMultiplesOfH : Obligations.TableEntriesAreMultiplesOfH := by
  intro h
  refine ⟨fun i => ?_, ?_, ?_, ?_, ?_, fun a b => ?_⟩ <;> apply blockElem_injective
  · rw [blockElem_tableAt_genTable, blockElem_gfmul, blockElem_nibbleBlock]
  · exact (blockElem_tableAt_twoPow h (k := 0) (by decide)).trans (by rw [pow_zero, one_mul])
  · exact (blockElem_tableAt_twoPow h (k := 1) (by decide)).trans (by rw [pow_one, blockElem_mulx])
  · exact (blockElem_tableAt_twoPow h (k := 2) (by decide)).trans (by rw [blockElem_mulx, blockElem_mulx]; ring)
  · refine (blockElem_tableAt_twoPow h (k := 3) (by decide)).trans ?_
    rw [blockElem_mulx, blockElem_mulx, blockElem_mulx]
    ring
  · rw [blockElem_xor, blockElem_tableAt_genTable, blockElem_tableAt_genTable, blockElem_tableAt_genTable,
      nibbleElem_xor, add_mul]

/-- Settles O19: doubling multiplies the element by x; RED4 is a table of 16 closed values. -/
theorem doublingAndFourfoldDoublingAreProducts : Obligations.DoublingAndFourfoldDoublingAreProducts := by
  refine ⟨fun v => ?_, by decide, mulx4_eq, fun z => ?_⟩ <;> apply blockElem_injective
  · rw [blockElem_mulx, blockElem_gfmul, blockElem_blkX, mul_comm]
  · rw [blockElem_mulx4, blockElem_gfmul, blockElem_blkX4, mul_comm]

/-- Settles O20: the laws of the product of elements. -/
theorem multiplierLaws : Obligations.MultiplierLaws := by
  refine ⟨fun h => ⟨?_, ?_⟩, fun h x y => ?_, fun x => ?_⟩ <;> apply blockElem_injective
  · simp
  · rw [blockElem_mulH, blockElem_blkOne, one_mul]
  · rw [blockElem_xor, blockElem_mulH, blockElem_mulH, blockElem_mulH, blockElem_xor, add_mul]
  · simp

end Sys2Proof.Machine
end

section
/-! Proofs about GENH, LOADH and MULH (spec/40_gf128_table.md R144 to R146). -/

namespace Sys2Proof.Machine

open Sys2Proof

/-! ### The one word of a class N command -/

/-- A class N command decodes from its row's match value only (30_encoding.md R102, R105). -/
theorem decode_classN_iff {i : Instr} (hi : i.operandClass = .n) {d : Bool} {w : Word} :
    decode d w = .ok i ↔ w = i.rowMatch ∧ i.present d = true := by
  rw [decode_eq_ok_iff, rowMask_classN hi, len_classN hi, BitVec.and_allOnes]
  refine and_congr_left fun _ => and_iff_left_of_imp ?_
  rintro rfl
  exact fieldLen_rowMatch i

/-- The opcode of a class N command is no other command's (30_encoding.md R104). -/
theorem decodeOp_classN {i j : Instr} (hi : i.operandClass = .n) {d : Bool} {n : Nat}
    (h : decodeOp d i.opcode n = .ok j) : i = j := by
  cases i with
  | nop | genh | loadh | ivblk => exact (decodeClassN_eq_ok_iff.mp h).2
  | mulh =>
    cases d with
    | false => cases h
    | true => exact (decodeClassN_eq_ok_iff.mp h).2
  | _ => cases hi

theorem onlyWord_rowMatch {i : Instr} (hi : i.operandClass = .n) : OnlyWord i.rowMatch := by
  intro d w hop hne
  cases hd : decode d w with
  | error e => exact ⟨e, rfl⟩
  | ok j =>
    have hfield : fieldOp w = i.opcode := by
      have hlow : fieldOp (w &&& 0xF) = fieldOp w := congrArg BitVec.toNat (extractLsb'_and_of_inside w rfl)
      rw [← hlow, hop, fieldOp_rowMatch]
    have hj : decodeOp d i.opcode (fieldLen w) = .ok j := by
      unfold decode at hd
      split at hd
      · cases hd
      · rwa [hfield] at hd
    obtain rfl := decodeOp_classN hi hj
    exact absurd ((decode_classN_iff hi).mp hd).1 hne

/-! ### The table commands and MULH -/

/-- GENH leaves no key change open but one that came during it. -/
theorem settleKey_true_of_not_torn {s : State} (h : s.keyPort ≠ .torn) :
    settleKey true s = { s with keyPort := .settled } := by
  rw [settleKey, KeyPort.afterTable_true, if_neg h]

theorem exec_of_verdict {i : Instr} {s : State} {v : Verdict} (h : commandVerdict i s = v) :
    exec i s = carryOut v (commandEffect i) s := by
  rw [exec_eq_carryOut, h]

theorem verdictMulh_state {s : State} (hd : s.debugMulh = true) (ht : s.tv = false) :
    verdictMulh s = .refuse .state := by
  simp [verdictMulh, hd, ht]

theorem verdictMulh_illegal {s : State} (hd : s.debugMulh = false) : verdictMulh s = .refuse .illegal := by
  simp [verdictMulh, hd]

/-- Settles O24: the effect of GENH on a port that GENH itself settles. -/
theorem genhBuildsTheTableFromTheCipher : Obligations.GenhBuildsTheTableFromTheCipher := by
  refine ⟨fun d w => ?_, onlyWord_rowMatch (i := .genh) rfl, fun s hs => ?_⟩
  · exact (decode_classN_iff (i := .genh) rfl).trans (and_iff_left rfl)
  · show Host.Outcome.next (effectGenh s) = _
    rw [effectGenh, settleKey_true_of_not_torn hs, cipherAnswer_settled 0 rfl]
    rfl

/-- Settles O25: the effect of LOADH, with the key port by its own lemma. -/
theorem loadhBuildsTheTableFromTheOperand : Obligations.LoadhBuildsTheTableFromTheOperand := by
  refine ⟨fun d w => ?_, onlyWord_rowMatch (i := .loadh) rfl, fun s => ?_⟩
  · exact (decode_classN_iff (i := .loadh) rfl).trans (and_iff_left rfl)
  · rw [← effectLoadh_keyPort]
    rfl

/-- Settles O26: the three verdicts of MULH. -/
theorem mulhMultipliesTheOperandByH : Obligations.MulhMultipliesTheOperandByH := by
  refine ⟨fun d w => decode_classN_iff (i := .mulh) rfl, onlyWord_rowMatch (i := .mulh) rfl, fun s hd ht => ?_,
    fun s hd ht => ?_, fun s hd => ?_⟩
  · exact exec_of_verdict (i := .mulh) (verdictMulh_perform.mpr ⟨hd, ht⟩)
  · exact exec_of_verdict (i := .mulh) (verdictMulh_state hd ht)
  · exact exec_of_verdict (i := .mulh) (verdictMulh_illegal hd)

end Sys2Proof.Machine
end

section
/-! Proofs about the GHASH helpers and IVBLK (spec/41_ghash.md R171 to R180). -/

namespace Sys2Proof.Machine

open Sys2Proof

/-! ### The counter increment, the length block and the padding -/

theorem inc32_toNat (v : Block) :
    (inc32 v).toNat = v.toNat / 2 ^ 32 * 2 ^ 32 + (v.toNat % 2 ^ 32 + 1) % 2 ^ 32 := by
  have hupper : (v.extractLsb' 32 96).toNat = v.toNat / 2 ^ 32 := by
    have hv := v.isLt
    rw [BitVec.extractLsb'_toNat, Nat.shiftRight_eq_div_pow]
    omega
  have hlow : (v.extractLsb' 0 32 + 1).toNat = (v.toNat % 2 ^ 32 + 1) % 2 ^ 32 := by
    rw [BitVec.toNat_add, BitVec.extractLsb'_toNat, Nat.shiftRight_zero]
    rfl
  rw [inc32, toNat_append_eq_add, hupper, hlow]

theorem lengthBlock_toNat (a c : Nat) :
    (lengthBlock a c).toNat = (8 * a % 2 ^ 64) * 2 ^ 64 + 8 * c % 2 ^ 64 := by
  rw [lengthBlock, toNat_append_eq_add, BitVec.toNat_ofNat, BitVec.toNat_ofNat]

/-- LEN_LIMIT is the greatest byte count whose bit length has 64 bits (41_ghash.md R172). -/
theorem bitLength_lt_of_le_lenLimit {a : Nat} (h : a ≤ Config.lenLimit) : 8 * a < 2 ^ 64 := by
  unfold Config.lenLimit at h
  omega

/-- Bit `p` of a padded block: the bits below the first `n` bytes are zero. -/
theorem pad_getLsbD (b : Block) (n : Nat) {p : Nat} (hp : p < 128) :
    (pad b n).getLsbD p = (decide (8 * (16 - n) ≤ p) && b.getLsbD p) := by
  by_cases h : 8 * (16 - n) ≤ p
  · simp [pad, hp, h, Nat.not_lt.mpr h]
  · simp [pad, h, Nat.lt_of_not_le h]

/-- Settles O21: each appended part is its own digit, and 8 · LEN_LIMIT has 64 bits. -/
theorem counterIncrementAndLengthBlock : Obligations.CounterIncrementAndLengthBlock :=
  ⟨inc32_toNat, lengthBlock_toNat, fun _ ha => Nat.mod_eq_of_lt (bitLength_lt_of_le_lenLimit ha)⟩

/-- Settles O22: bit `i` of byte `j` is bit `120 - 8j + i`, which lies in the first `n` bytes exactly where `j < n`. -/
theorem paddingZeroesTheTail : Obligations.PaddingZeroesTheTail := by
  intro b n j _ hn hj
  ext i hi
  have hp : 120 - 8 * j + i < 128 := by omega
  rw [byteAt, BitVec.getElem_extractLsb', pad_getLsbD b n hp]
  by_cases hjn : j < n
  · have hkept : 8 * (16 - n) ≤ 120 - 8 * j + i := by omega
    simp [byteAt, hjn, hkept]
  · have hzero : ¬ 8 * (16 - n) ≤ 120 - 8 * j + i := by omega
    simp [hjn, hzero]

/-! ### IVBLK -/

section

variable {s : State}

theorem ivBase_of_ivload (h : s.sess = .ivload) : ivBase s = s.ivLen.toNat := if_pos h

theorem ivBase_of_not_ivload (h : s.sess ≠ .ivload) : ivBase s = 0 := if_neg h

theorem verdictIvblk_state (h : s.tv = false) : verdictIvblk s = .refuse .state := by
  simp [verdictIvblk, h]

theorem verdictIvblk_past_limit (htv : s.tv = true) (hl : Config.lenLimit < ivBase s + 16) :
    verdictIvblk s = .limit := by
  simp [verdictIvblk, htv, hl]

/-- IVBLK whose checks pass. -/
theorem exec_ivblk_perform (htv : s.tv = true) (hl : ivBase s + 16 ≤ Config.lenLimit) :
    exec .ivblk s = .next (effectIvblk s) :=
  exec_of_verdict (i := .ivblk) (verdictIvblk_perform.mpr ⟨htv, hl⟩)

/-- A further block of a long IV. -/
theorem effectIvblk_of_ivload (hs : s.sess = .ivload) (hk : s.keyPort = .settled) :
    effectIvblk s = { s with acc := mulH s.m (s.acc ^^^ s.opnd), ivLen := s.ivLen + 16, err := .ok } := by
  rw [effectIvblk, beginIv_of_ivload hs, foldIv, foldNow_settled _ _ hk, fold, ← hs]

/-- The first block of a long IV. -/
theorem effectIvblk_of_not_ivload (hs : s.sess ≠ .ivload) (hk : s.keyPort = .settled) :
    effectIvblk s = { clearSession s with acc := mulH s.m s.opnd, ivLen := 16, sess := .ivload, err := .ok } := by
  have hfold : foldNow (clearSession s) 0 s.opnd = mulH s.m s.opnd := by simp [fold, hk]
  rw [effectIvblk, beginIv_of_not_ivload hs, ← hfold]
  rfl

/-- Outside IVLOAD a new IV begins, so only in IVLOAD can IVBLK pass LEN_LIMIT. -/
theorem ivBase_within_limit (h : s.sess = .ivload → s.ivLen.toNat + 16 ≤ Config.lenLimit) :
    ivBase s + 16 ≤ Config.lenLimit := by
  by_cases hs : s.sess = .ivload
  · rw [ivBase_of_ivload hs]
    exact h hs
  · rw [ivBase_of_not_ivload hs]
    decide

end

/-- Settles O27: the four cases are the verdict's, with the fold split by STATE. -/
theorem ivblkFoldsOneIvBlock : Obligations.IvblkFoldsOneIvBlock := by
  refine ⟨fun d w => ?_, onlyWord_rowMatch (i := .ivblk) rfl, fun s htv hk hs hl => ?_, fun s htv hk hs => ?_,
    fun s htv hs hl => ?_, fun s htv => ?_⟩
  · exact (decode_classN_iff (i := .ivblk) rfl).trans (and_iff_left rfl)
  · rw [exec_ivblk_perform htv (ivBase_within_limit fun _ => hl), effectIvblk_of_ivload hs hk]
  · rw [exec_ivblk_perform htv (ivBase_within_limit fun h => absurd h hs), effectIvblk_of_not_ivload hs hk]
    rfl
  · exact exec_of_verdict (i := .ivblk) (verdictIvblk_past_limit htv (by rwa [ivBase_of_ivload hs]))
  · exact exec_of_verdict (i := .ivblk) (verdictIvblk_state htv)

/-! ### The end of a long IV -/

section

variable (s : State)

@[simp] theorem beginIv_opnd : (beginIv s).opnd = s.opnd := by unfold beginIv; split <;> rfl

theorem foldNow_beginIv : foldNow (beginIv s) = foldNow s := by unfold beginIv; split <;> rfl

/-- IVBLK moves nothing a fold depends on. -/
theorem foldNow_effectIvblk : foldNow (effectIvblk s) = foldNow s := foldNow_beginIv s

theorem effectIvblk_acc : (effectIvblk s).acc = foldNow s (beginIv s).acc s.opnd := by
  show foldNow (beginIv s) (beginIv s).acc (beginIv s).opnd = _
  rw [foldNow_beginIv, beginIv_opnd]

/-- START opens the same session whether or not IVBLK came just before it: `clearSession` and START overwrite all that
IVBLK moves. -/
theorem openSession_effectIvblk (j0 : Block) : openSession j0 (effectIvblk s) = openSession j0 s := by
  unfold effectIvblk beginIv; split <;> rfl

variable {s}

/-- IVBLK within LEN_LIMIT counts its block as a number. -/
theorem effectIvblk_ivLen_toNat (hl : ivBase s + 16 ≤ Config.lenLimit) :
    (effectIvblk s).ivLen.toNat = ivBase s + 16 := by
  by_cases hs : s.sess = .ivload
  · rw [ivBase_of_ivload hs] at hl ⊢
    rw [effectIvblk, beginIv_of_ivload hs]
    exact toNat_add_len (n := 16) (by simp only [Config.lenLimit] at hl; omega)
  · rw [ivBase_of_not_ivload hs, effectIvblk, beginIv_of_not_ivload hs]
    rfl

/-- The J0 of START 16 folds the operand and then the length block, onto the IV so far or onto 0. -/
theorem startJ0_sixteen (s : State) : startJ0 16 s =
    foldNow s (foldNow s (beginIv s).acc s.opnd) (lengthBlock 0 (ivBase s + 16)) := by
  by_cases hs : s.sess = .ivload
  · simp [startJ0, generalJ0, hs, beginIv_of_ivload hs, ivBase_of_ivload hs]
  · simp [startJ0, generalJ0, hs, beginIv_of_not_ivload hs, ivBase_of_not_ivload hs]

/-- The J0 of START 0 after IVBLK is that of START 16 on the same operand (41_ghash.md R180). -/
theorem startJ0_zero_effectIvblk (hl : ivBase s + 16 ≤ Config.lenLimit) :
    startJ0 0 (effectIvblk s) = startJ0 16 s := by
  calc startJ0 0 (effectIvblk s)
    _ = foldNow (effectIvblk s) (effectIvblk s).acc (lengthBlock 0 (effectIvblk s).ivLen.toNat) := rfl
    _ = foldNow s (foldNow s (beginIv s).acc s.opnd) (lengthBlock 0 (ivBase s + 16)) := by
      rw [foldNow_effectIvblk, effectIvblk_acc, effectIvblk_ivLen_toNat hl]
    _ = startJ0 16 s := (startJ0_sixteen s).symm

/-- START whose checks pass. -/
theorem exec_start_perform {n : Nat} (h : verdictStart n s = .perform) :
    exec (.start n) s = .next (effectStart n s) :=
  exec_of_verdict (i := .start n) h

theorem verdictStart_zero_after_ivblk (htv : s.tv = true) (hl : ivBase s + 16 ≤ Config.lenLimit) :
    verdictStart 0 (effectIvblk s) = .perform := by
  refine verdictStart_perform.mpr ⟨(beginIv_tv s).trans htv, Nat.zero_le _, .inl ⟨rfl, ?_⟩⟩
  rw [effectIvblk_ivLen_toNat hl]
  exact hl

theorem verdictStart_sixteen (htv : s.tv = true) (hl : ivBase s + 16 ≤ Config.lenLimit) :
    verdictStart 16 s = .perform := by
  refine verdictStart_perform.mpr ⟨htv, Nat.le_refl _, ?_⟩
  by_cases hs : s.sess = .ivload
  · exact .inl ⟨hs, by rwa [ivBase_of_ivload hs] at hl⟩
  · exact .inr ⟨hs, nofun⟩

end

/-- Settles O53: both ways make the same J0, and START opens the same session on it. -/
theorem ivMayEndWithStart0OrStart16 : Obligations.IvMayEndWithStart0OrStart16 := by
  intro s t u v htv _ hlimit ht hu hv
  have hl := ivBase_within_limit hlimit
  obtain rfl := Host.Outcome.next.inj ((exec_ivblk_perform htv hl).symm.trans ht)
  obtain rfl := Host.Outcome.next.inj ((exec_start_perform (verdictStart_zero_after_ivblk htv hl)).symm.trans hu)
  obtain rfl := Host.Outcome.next.inj ((exec_start_perform (verdictStart_sixteen htv hl)).symm.trans hv)
  rw [effectStart, effectStart, startJ0_zero_effectIvblk hl, openSession_effectIvblk]

end Sys2Proof.Machine
end

section
/-! Proofs about host programs (spec/30_encoding.md R110): what each pseudo-instruction answers and leaves in an idle
block, up to the command with its operand that a stream issues once per chunk. -/

namespace Sys2Proof.Machine

open Sys2Proof

/-! ### Sequencing -/

section

variable {α β γ : Type}

theorem hostThen_of_next {p : HostProg α} {f : α → HostProg β} {s t : State} {a : α} (h : p s = .next (a, t)) :
    hostThen p f s = f a t := by
  rw [hostThen, h]

theorem hostThen_assoc (p : HostProg α) (f : α → HostProg β) (g : β → HostProg γ) :
    hostThen (hostThen p f) g = hostThen p fun a => hostThen (f a) g := by
  funext s
  unfold hostThen
  cases p s <;> rfl

end

/-! ### Words of a block -/

/-- Writing a word of a block replaces its 32 bits. -/
theorem setWordAt_getLsbD (b : Block) {k : Nat} (hk : k ≤ 3) (v : Word) {p : Nat} (hp : p < 128) :
    (setWordAt b k v).getLsbD p =
      if 96 - 32 * k ≤ p ∧ p < 128 - 32 * k then v.getLsbD (p - (96 - 32 * k)) else b.getLsbD p := by
  have hones (i : Nat) : (0xFFFFFFFF : Block).getLsbD i = decide (i < 32) := by
    have h : (0xFFFFFFFF : Block) = (BitVec.allOnes 32).setWidth 128 := rfl
    rw [h, BitVec.getLsbD_setWidth, BitVec.getLsbD_allOnes, Bool.and_eq_right_iff_imp]
    intro hi
    have := of_decide_eq_true hi
    exact decide_eq_true (by omega)
  rw [setWordAt, BitVec.getLsbD_or, BitVec.getLsbD_and, BitVec.getLsbD_not, BitVec.getLsbD_shiftLeft,
    BitVec.getLsbD_shiftLeft, BitVec.getLsbD_setWidth, hones]
  by_cases hlow : 96 - 32 * k ≤ p
  · by_cases hhigh : p < 128 - 32 * k
    · have h32 : p - (96 - 32 * k) < 32 := by omega
      have h128 : p - (96 - 32 * k) < 128 := by omega
      simp [hp, hlow, hhigh, h32, h128, Nat.not_lt.mpr hlow]
    · have h32 : ¬ p - (96 - 32 * k) < 32 := by omega
      simp [hp, hhigh, h32, BitVec.getLsbD_of_ge v _ (Nat.not_lt.mp h32)]
  · simp [hp, hlow, Nat.lt_of_not_le hlow]

theorem wordAt_getLsbD (b : Block) (k : Nat) {p : Nat} (hp : p < 32) :
    (wordAt b k).getLsbD p = b.getLsbD (96 - 32 * k + p) := by
  rw [wordAt, BitVec.getLsbD_extractLsb', decide_eq_true hp, Bool.true_and]

/-- The four words of a block, written one after the other, leave nothing of the block before. -/
theorem setWordAt_all (b x : Block) :
    setWordAt (setWordAt (setWordAt (setWordAt b 0 (wordAt x 0)) 1 (wordAt x 1)) 2 (wordAt x 2)) 3 (wordAt x 3) =
      x := by
  refine BitVec.eq_of_getLsbD_eq fun p hp => ?_
  rw [setWordAt_getLsbD _ (by decide) _ hp, setWordAt_getLsbD _ (by decide) _ hp, setWordAt_getLsbD _ (by decide) _ hp,
    setWordAt_getLsbD _ (by decide) _ hp]
  split_ifs
  · rw [wordAt_getLsbD _ _ (by omega)]; exact congrArg x.getLsbD (by omega)
  · rw [wordAt_getLsbD _ _ (by omega)]; exact congrArg x.getLsbD (by omega)
  · rw [wordAt_getLsbD _ _ (by omega)]; exact congrArg x.getLsbD (by omega)
  · rw [wordAt_getLsbD _ _ (by omega)]; exact congrArg x.getLsbD (by omega)
  · omega

/-- A block is its four words, the first the most significant (20_memory.md R73). -/
theorem wordAt_append (b : Block) : wordAt b 0 ++ wordAt b 1 ++ wordAt b 2 ++ wordAt b 3 = b := by
  apply BitVec.eq_of_toNat_eq
  rw [toNat_append_eq_add, toNat_append_eq_add, toNat_append_eq_add, block_toNat_eq_words b]
  ring

/-! ### Reads and writes -/

section

variable (s : State)

/-- STATUS as `wait` and `err` read it. -/
theorem rd_status : rd 0x04 s = .next (statusWord s, reply ⟨statusWord s, false⟩ s) := rfl

theorem wr_din_word {k : Nat} (hk : k ≤ 3) (v : Word) : wr (BitVec.ofNat 8 (0x10 + 4 * k)) v s =
    .next ((), reply ⟨0, false⟩ { s with din := setWordAt s.din k v }) := by
  interval_cases k <;> rfl

theorem rd_dout_word {k : Nat} (hk : k ≤ 3) : rd (BitVec.ofNat 8 (0x20 + 4 * k)) s =
    .next (wordAt s.dout k, reply ⟨wordAt s.dout k, false⟩ s) := by
  interval_cases k <;> rfl

/-- `din X` leaves X in DIN, whatever was there. -/
theorem din_next (x : Block) : ∃ rs, din x s = .next ((), { s with din := x, replies := rs }) := by
  apply Exists.intro
  refine (hostThen_of_next (wr_din_word s (k := 0) (by decide) _)).trans ?_
  refine (hostThen_of_next (wr_din_word _ (k := 1) (by decide) _)).trans ?_
  refine (hostThen_of_next (wr_din_word _ (k := 2) (by decide) _)).trans ?_
  refine (wr_din_word _ (k := 3) (by decide) _).trans ?_
  simp only [reply, setWordAt_all]
  rfl

/-- `dout` returns DOUT and moves the replies only. -/
theorem dout_next : ∃ rs, dout s = .next (s.dout, { s with replies := rs }) := by
  apply Exists.intro
  refine (hostThen_of_next (rd_dout_word s (k := 0) (by decide))).trans ?_
  refine (hostThen_of_next (rd_dout_word _ (k := 1) (by decide))).trans ?_
  refine (hostThen_of_next (rd_dout_word _ (k := 2) (by decide))).trans ?_
  refine (hostThen_of_next (rd_dout_word _ (k := 3) (by decide))).trans ?_
  simp only [hostPure, reply, wordAt_append]
  rfl

/-- BUSY is bit 0 of STATUS (10_state.md R54). -/
theorem statusWord_busy : (statusWord s).getLsbD 0 = s.busy := by
  rw [statusWord, BitVec.getLsbD_append, if_pos Nat.one_pos]
  cases s.busy <;> rfl

/-- ERR is bits 7:5 of STATUS (10_state.md R54). -/
theorem statusWord_err : (statusWord s).extractLsb' 5 3 = s.err.code := by
  have hbusy := s.busy.toNat_le
  have hsess := s.sess.code.isLt
  have htv := s.tv.toNat_le
  have herr := s.err.code.isLt
  apply BitVec.eq_of_toNat_eq
  rw [BitVec.extractLsb'_toNat, Nat.shiftRight_eq_div_pow, statusWord_toNat]
  omega

theorem ErrCode.code_injective : Function.Injective ErrCode.code := by
  intro a b
  cases a <;> cases b <;> decide

/-- `err == OK` sees whether ERR is OK and moves the replies only. -/
theorem errOk_next : ∃ rs, errOk s = .next (decide (s.err = .ok), { s with replies := rs }) := by
  refine ⟨⟨statusWord s, false⟩ :: s.replies, ?_⟩
  have h : ((statusWord s).extractLsb' 5 3 == ErrCode.ok.code) = decide (s.err = .ok) := by
    rw [statusWord_err, Bool.beq_eq_decide_eq]
    exact decide_eq_decide.mpr ErrCode.code_injective.eq_iff
  rw [← h]
  rfl

end

/-! ### A command and its completion -/

/-- The state in which the command `i` with the operand `x`, issued in the idle state `s`, completes: accepted, with
some replies more. -/
def issued (i : Instr) (x : Block) (rs : List BusReply) (s : State) : State :=
  { s with din := x, opnd := x, pend := encode i, authOk := false, busy := true, replies := rs }

/-- `din x; cmd i`, and whether ERR is then OK: the turn of a stream's loop (44_facade.md R280, R282). -/
def turn (polls : Nat) (i : Instr) (x : Block) : HostProg Bool :=
  hostThen (din x) fun _ => hostThen (cmd polls i) fun _ => errOk

/-- `wait` completes the command in flight after reading STATUS some times: the completion sees the replies of those
reads and nothing else of them. -/
theorem wait_next {i : Instr} (polls : Nat) {s : State} (hb : s.busy = true)
    (hd : decode s.debugMulh s.pend = .ok i) :
    ∃ rs, ∀ u, exec i { s with replies := rs } = .next u →
      ∃ v rs', wait polls s = .next (v, { retire u with replies := rs' }) := by
  induction polls generalizing s with
  | zero =>
    refine ⟨s.replies, fun u hu => ?_⟩
    have hturn : hostEvent .blockTurn s = .next ((), retire u) := by
      have hu' : exec i s = .next u := hu
      rw [hostEvent, perform_blockTurn_busy hb, complete_of_decode hd, hu', retireOutcome_next]
    exact ⟨_, _, hostThen_of_next hturn⟩
  | succ k ih =>
    obtain ⟨rs, hrs⟩ := ih (s := reply ⟨statusWord s, false⟩ s) hb hd
    refine ⟨rs, fun u hu => ?_⟩
    obtain ⟨v, rs', hwait⟩ := hrs u hu
    refine ⟨v, rs', ?_⟩
    rw [wait, hostThen_of_next (rd_status s), statusWord_busy, if_pos hb, hwait]

/-- One turn of a stream, from an idle block: the command is carried out on the accepted operand, and the turn reports
whether its ERR is OK. -/
theorem turn_next (polls : Nat) {i : Instr} (x : Block) {s : State} (hb : s.busy = false)
    (hwf : i.wellFormed s.debugMulh = true) :
    ∃ rs, ∀ u, exec i (issued i x rs s) = .next u →
      ∃ rs', turn polls i x s = .next (decide (u.err = .ok), { retire u with replies := rs' }) := by
  obtain ⟨r₁, hdin⟩ := din_next s x
  have hwr : wr 0x00 (encode i) { s with din := x, replies := r₁ } =
      .next ((), issued i x (⟨0, false⟩ :: r₁) s) := by
    have hidle : ({ s with din := x, replies := r₁ } : State).busy = false := hb
    show Host.Outcome.next ((), reply ⟨0, false⟩ (writeCmd (encode i) _)) = _
    rw [writeCmd, hidle]
    rfl
  obtain ⟨rs, hrs⟩ := wait_next (i := i) polls (s := issued i x (⟨0, false⟩ :: r₁) s) rfl
    (decodeOfEncodeIsTheCommand _ i hwf)
  refine ⟨rs, fun u hu => ?_⟩
  obtain ⟨v, r₂, hwait⟩ := hrs u hu
  obtain ⟨r₃, herr⟩ := errOk_next { retire u with replies := r₂ }
  refine ⟨r₃, ?_⟩
  rw [turn, hostThen_of_next hdin, cmd, hostThen_assoc, hostThen_of_next hwr, hostThen_of_next hwait, herr]
  rfl

/-- The loop of `feed`, turn by turn. -/
theorem feed_cons (polls : Nat) (mk : Nat → Instr) (x : List Byte) (xs : List (List Byte)) :
    feed polls mk (x :: xs) = hostThen (turn polls (mk x.length) (blockOf x)) fun good =>
      if good then feed polls mk xs else hostPure false := by
  simp only [turn, hostThen_assoc]
  rfl

/-- The loop of `feedOut`, turn by turn. -/
theorem feedOut_cons (polls : Nat) (mk : Nat → Instr) (x : List Byte) (xs : List (List Byte)) :
    feedOut polls mk (x :: xs) = hostThen (turn polls (mk x.length) (blockOf x)) fun good =>
      if good then
        hostThen dout fun y =>
        hostThen (feedOut polls mk xs) fun rest =>
        hostPure (rest.map fun r => bytesOf x.length y ++ r)
      else hostPure none := by
  simp only [turn, hostThen_assoc]
  rfl

end Sys2Proof.Machine
end

section
/-! Proofs about byte strings as blocks and chunks (spec/41_ghash.md R171, R173; 44_facade.md R280). -/

namespace Sys2Proof.Machine

open Sys2Proof

/-! ### Blocks as bytes -/

theorem byteAt_getLsbD (b : Block) (j : Nat) {i : Nat} (hi : i < 8) :
    (byteAt b j).getLsbD i = b.getLsbD (120 - 8 * j + i) := by
  rw [byteAt, BitVec.getLsbD_extractLsb', decide_eq_true hi, Bool.true_and]

/-- A block is its 16 bytes. -/
theorem block_eq_of_bytes {a b : Block} (h : ∀ j < 16, byteAt a j = byteAt b j) : a = b := by
  refine BitVec.eq_of_getLsbD_eq fun p hp => ?_
  have hplace : 120 - 8 * (15 - p / 8) + p % 8 = p := by omega
  rw [← hplace, ← byteAt_getLsbD a _ (by omega), ← byteAt_getLsbD b _ (by omega), h _ (by omega)]

/-- The byte a block shifts in at its end, and the bytes it had. -/
theorem byteAt_shiftIn (b : Block) (v : Byte) {j : Nat} (hj : j ≤ 15) :
    byteAt ((b <<< 8) ||| v.zeroExtend 128) j = if j = 15 then v else byteAt b (j + 1) := by
  refine BitVec.eq_of_getLsbD_eq fun i hi => ?_
  rw [byteAt_getLsbD _ _ hi, BitVec.getLsbD_or, BitVec.getLsbD_shiftLeft, BitVec.getLsbD_setWidth]
  split_ifs with h15
  · have h128 : i < 128 := by omega
    subst h15
    simp [hi, h128]
  · have hin : 120 - 8 * j + i < 128 := by omega
    have hlow : ¬ 120 - 8 * j + i < 8 := by omega
    rw [byteAt_getLsbD _ _ hi, BitVec.getLsbD_of_ge v _ (by omega), decide_eq_true hin, decide_eq_false hlow,
      show 120 - 8 * j + i - 8 = 120 - 8 * (j + 1) + i by omega]
    simp

/-- After `k` bytes they are the last `k` of the block. -/
theorem byteAt_foldl_shiftIn (bs : List Byte) (k j : Nat) (hk : k ≤ 16) (hj : j < k) :
    byteAt ((List.range k).foldl (fun b j => (b <<< 8) ||| (bs.getD j 0).zeroExtend 128) 0) (16 - k + j) =
      bs.getD j 0 := by
  induction k generalizing j with
  | zero => omega
  | succ k ih =>
    rw [List.range_succ, List.foldl_append, List.foldl_cons, List.foldl_nil, byteAt_shiftIn _ _ (by omega)]
    split_ifs with hlast
    · rw [show j = k by omega]
    · rw [show 16 - (k + 1) + j + 1 = 16 - k + j by omega, ih j (by omega) (by omega)]

@[simp] theorem byteAt_blockOf (bs : List Byte) {j : Nat} (hj : j < 16) : byteAt (blockOf bs) j = bs.getD j 0 := by
  have h := byteAt_foldl_shiftIn bs 16 j (le_refl 16) hj
  rwa [Nat.sub_self, Nat.zero_add] at h

@[simp] theorem bytesOf_length (n : Nat) (b : Block) : (bytesOf n b).length = n := by
  rw [bytesOf, List.length_map, List.length_range]

/-- The first `n` bytes of a block, as a block again, are its padding (41_ghash.md R171). -/
theorem blockOf_bytesOf (b : Block) {n : Nat} (h1 : 1 ≤ n) (h16 : n ≤ 16) : blockOf (bytesOf n b) = pad b n := by
  refine block_eq_of_bytes fun j hj => ?_
  rw [byteAt_blockOf _ hj, paddingZeroesTheTail b n j h1 h16 (by omega), bytesOf, List.getD_eq_getElem?_getD,
    List.getElem?_map]
  split_ifs with hjn
  · rw [List.getElem?_range hjn]; rfl
  · rw [List.getElem?_eq_none (by rwa [List.length_range, ← Nat.not_lt])]; rfl

/-- A chunk's block has zero bytes after the chunk (44_facade.md R280). -/
theorem pad_blockOf {c : List Byte} (h1 : 1 ≤ c.length) (h16 : c.length ≤ 16) :
    pad (blockOf c) c.length = blockOf c := by
  refine block_eq_of_bytes fun j hj => ?_
  rw [paddingZeroesTheTail _ _ j h1 h16 (by omega), byteAt_blockOf c hj]
  split_ifs with hjn
  · rfl
  · rw [List.getD_eq_default _ _ (Nat.not_lt.mp hjn)]

/-- Padding does not move the bytes it keeps. -/
theorem bytesOf_pad (b : Block) {n : Nat} (h1 : 1 ≤ n) (h16 : n ≤ 16) : bytesOf n (pad b n) = bytesOf n b := by
  refine List.map_congr_left fun j hj => ?_
  have hjn := List.mem_range.mp hj
  rw [paddingZeroesTheTail b n j h1 h16 (by omega), if_pos hjn]

/-! ### Chunks -/

/-- Pieces as `chunks` makes them: 16 bytes each but the last, which has 1 to 16 (44_facade.md R280). -/
def Chunked : List (List Byte) → Prop
  | [] => True
  | c :: cs => 1 ≤ c.length ∧ c.length ≤ 16 ∧ (cs ≠ [] → c.length = 16) ∧ Chunked cs

theorem chunksUpTo_eq_nil_iff {k : Nat} {bs : List Byte} (h : bs.length ≤ k) : chunksUpTo k bs = [] ↔ bs = [] := by
  cases k with
  | zero => simpa [chunksUpTo] using h
  | succ k => cases bs <;> simp [chunksUpTo]

theorem chunked_chunksUpTo {k : Nat} {bs : List Byte} (h : bs.length ≤ k) : Chunked (chunksUpTo k bs) := by
  induction k generalizing bs with
  | zero => trivial
  | succ k ih =>
    rw [chunksUpTo]
    split
    · trivial
    · next hne =>
      have hpos : 1 ≤ bs.length := List.length_pos_iff.mpr (by simpa using hne)
      have hdrop : (bs.drop 16).length ≤ k := by rw [List.length_drop]; omega
      refine ⟨?_, ?_, fun hrest => ?_, ih hdrop⟩
      · rw [List.length_take]; omega
      · rw [List.length_take]; omega
      · have hlong : bs.drop 16 ≠ [] := fun h0 => hrest ((chunksUpTo_eq_nil_iff hdrop).mpr h0)
        have := List.length_pos_iff.mpr hlong
        rw [List.length_drop] at this
        rw [List.length_take]; omega

theorem flatten_chunksUpTo {k : Nat} {bs : List Byte} (h : bs.length ≤ k) : (chunksUpTo k bs).flatten = bs := by
  induction k generalizing bs with
  | zero => exact (List.length_eq_zero_iff.mp (Nat.le_zero.mp h)).symm
  | succ k ih =>
    rw [chunksUpTo]
    split
    · next hnil => exact (List.isEmpty_iff.mp hnil).symm
    · next hne =>
      have hpos : 1 ≤ bs.length := List.length_pos_iff.mpr (by simpa using hne)
      rw [List.flatten_cons, ih (by rw [List.length_drop]; omega), List.take_append_drop]

theorem chunksUpTo_flatten {cs : List (List Byte)} (hc : Chunked cs) {k : Nat} (h : cs.flatten.length ≤ k) :
    chunksUpTo k cs.flatten = cs := by
  induction cs generalizing k with
  | nil => cases k <;> rfl
  | cons c cs ih =>
    obtain ⟨h1, h16, hfull, hcs⟩ := hc
    rw [List.flatten_cons, List.length_append] at h
    obtain ⟨k, rfl⟩ : ∃ m, k = m + 1 := ⟨k - 1, by omega⟩
    have hne : (c ++ cs.flatten).isEmpty = false := by
      cases c with
      | nil => cases h1
      | cons _ _ => rfl
    have hcut : (c ++ cs.flatten).take 16 = c ∧ (c ++ cs.flatten).drop 16 = cs.flatten := by
      by_cases hnil : cs = []
      · subst hnil
        rw [List.flatten_nil, List.append_nil]
        exact ⟨List.take_of_length_le h16, List.drop_of_length_le h16⟩
      · exact ⟨List.take_left' (hfull hnil), List.drop_left' (hfull hnil)⟩
    rw [List.flatten_cons, chunksUpTo, hne, if_neg Bool.false_ne_true, hcut.1, hcut.2, ih hcs (by omega)]

theorem chunked_chunks (bs : List Byte) : Chunked (chunks bs) := chunked_chunksUpTo (le_refl _)

@[simp] theorem flatten_chunks (bs : List Byte) : (chunks bs).flatten = bs := flatten_chunksUpTo (le_refl _)

/-- Pieces of that kind are the chunks of their concatenation. -/
theorem chunks_flatten {cs : List (List Byte)} (hc : Chunked cs) : chunks cs.flatten = cs :=
  chunksUpTo_flatten hc (le_refl _)

/-- How many chunks a string has (42_session.md R210). -/
theorem chunked_count {cs : List (List Byte)} (hc : Chunked cs) : 16 * cs.length ≤ cs.flatten.length + 15 := by
  induction cs with
  | nil => exact Nat.zero_le _
  | cons c cs ih =>
    obtain ⟨h1, -, hfull, hcs⟩ := hc
    have hrest := ih hcs
    rw [List.flatten_cons, List.length_append, List.length_cons]
    by_cases hnil : cs = []
    · subst hnil
      simp only [List.length_nil, List.flatten_nil]; omega
    · have := hfull hnil
      omega

/-- The folds of GHASH over a string's chunks (41_ghash.md R173). -/
def foldChunks (m : Table) (acc : Block) (cs : List (List Byte)) : Block :=
  cs.foldl (fun acc c => fold m acc (blockOf c)) acc

theorem foldChunks_append (m : Table) (acc : Block) (cs ds : List (List Byte)) :
    foldChunks m acc (cs ++ ds) = foldChunks m (foldChunks m acc cs) ds := List.foldl_append

theorem multiplyData_eq_foldChunks (m : Table) (acc : Block) (bs : List Byte) :
    multiplyData m acc bs = foldChunks m acc (chunks bs) := rfl

end Sys2Proof.Machine
end

section
/-! Proofs about NOP, START, AAD, ENC, DEC and GHASHC (spec/42_session.md R200 to R211). -/

namespace Sys2Proof.Machine

open Sys2Proof

/-- The word of a command that exists and whose LEN fits decodes to it (30_encoding.md R109). -/
theorem decode_encode {i : Instr} {d : Bool} (hlen : i.len ≤ 31) (hp : i.present d = true) :
    decode d (encode i) = .ok i :=
  decodeOfEncodeIsTheCommand d i (Bool.and_eq_true_iff.mpr ⟨decide_eq_true hlen, hp⟩)

/-- Settles O23: NOP is class N, and its only effect is its no-op. -/
theorem nopWritesErrOk : Obligations.NopWritesErrOk := by
  refine ⟨fun d w => ?_, onlyWord_rowMatch (i := .nop) rfl, fun _ => rfl⟩
  exact (decode_classN_iff (i := .nop) rfl).trans (and_iff_left rfl)

/-! ### START -/

section

variable {n : Nat} {s : State}

theorem verdictStart_state (htv : s.tv = false) : verdictStart n s = .refuse .state := by
  simp [verdictStart, htv]

theorem verdictStart_param (htv : s.tv = true) (hn : 16 < n ∨ (n = 0 ∧ s.sess ≠ .ivload)) :
    verdictStart n s = .refuse .param := by
  obtain hn | ⟨rfl, hs⟩ := hn
  · simp [verdictStart, htv, hn]
  · simp [verdictStart, htv, hs]

theorem verdictStart_past_limit (htv : s.tv = true) (hs : s.sess = .ivload) (hn : n ≤ 16)
    (hl : Config.lenLimit < s.ivLen.toNat + n) : verdictStart n s = .limit := by
  simp [verdictStart, htv, hs, hl, Nat.not_lt.mpr hn]

theorem openSession_settled (j0 : Block) (hk : s.keyPort = .settled) : openSession j0 s = SessionOpenedOn j0 s := by
  rw [openSession, cipherAnswer_settled j0 hk]
  rfl

/-- A START whose checks pass, under a settled key. -/
theorem exec_start_opens {j0 : Block} (hk : s.keyPort = .settled) (hv : verdictStart n s = .perform)
    (hj : startJ0 n s = j0) : exec (.start n) s = .next (SessionOpenedOn j0 s) := by
  rw [exec_start_perform hv, effectStart, hj, openSession_settled j0 hk]

/-- The general path with a last chunk: the chunk is folded, then the length block (41_ghash.md R178). -/
theorem generalJ0_of_pos (hk : s.keyPort = .settled) (h1 : 1 ≤ n) (x : Block) (total : Nat) :
    generalJ0 x n total s = mulH s.m (mulH s.m (x ^^^ pad s.opnd n) ^^^ lengthBlock 0 total) := by
  have hpos : n > 0 := h1
  rw [generalJ0, if_pos hpos, foldNow_settled _ _ hk, foldNow_settled _ _ hk, fold, fold]

/-- The general path without a last chunk. -/
theorem generalJ0_zero (hk : s.keyPort = .settled) (x : Block) (total : Nat) :
    generalJ0 x 0 total s = mulH s.m (x ^^^ lengthBlock 0 total) := by
  rw [generalJ0, if_neg (Nat.lt_irrefl 0), foldNow_settled _ _ hk, fold]

theorem startJ0_of_ivload (hs : s.sess = .ivload) : startJ0 n s = generalJ0 s.acc n (s.ivLen.toNat + n) s :=
  if_pos hs

/-- The fast path is taken outside IVLOAD only (42_session.md R201). -/
theorem startJ0_fast (hs : s.sess ≠ .ivload) : startJ0 12 s = fastJ0 s.opnd := by
  rw [startJ0, if_neg hs, if_pos rfl]

theorem startJ0_general (hs : s.sess ≠ .ivload) (h12 : n ≠ 12) : startJ0 n s = generalJ0 0 n n s := by
  rw [startJ0, if_neg hs, if_neg h12]

end

/-- Settles O28: the verdict gives the failures, and J0 is split by STATE and by LEN. -/
theorem startDerivesJ0AndOpensTheSession : Obligations.StartDerivesJ0AndOpensTheSession := by
  refine ⟨fun d n hn => decode_encode (i := .start n) hn rfl, fun s htv hk hs => ?_,
    fun s n htv hk hs h1 h16 h12 => ?_,
    fun s n htv hk hs h1 h16 hl => ?_, fun s htv hk hs hl => ?_, fun s n htv => ?_, fun s n htv hn => ?_,
    fun s n htv hs hn hl => ?_⟩
  · exact exec_start_opens hk (verdictStart_perform.mpr ⟨htv, by decide, .inr ⟨hs, by decide⟩⟩) (startJ0_fast hs)
  · refine exec_start_opens hk (verdictStart_perform.mpr ⟨htv, h16, .inr ⟨hs, Nat.ne_of_gt h1⟩⟩) ?_
    rw [startJ0_general hs h12, generalJ0_of_pos hk h1, BitVec.ofNat_eq_ofNat, BitVec.zero_xor]
  · refine exec_start_opens hk (verdictStart_perform.mpr ⟨htv, h16, .inl ⟨hs, hl⟩⟩) ?_
    rw [startJ0_of_ivload hs, generalJ0_of_pos hk h1]
  · refine exec_start_opens hk (verdictStart_perform.mpr ⟨htv, Nat.zero_le _, .inl ⟨hs, hl⟩⟩) ?_
    rw [startJ0_of_ivload hs, generalJ0_zero hk, Nat.add_zero]
  · exact exec_of_verdict (i := .start n) (verdictStart_state htv)
  · exact exec_of_verdict (i := .start n) (verdictStart_param htv hn)
  · exact exec_of_verdict (i := .start n) (verdictStart_past_limit htv hs hn hl)

/-! ### AAD -/

section

variable {n : Nat} {s : State}

theorem verdictAad_state (h : s.sess ≠ .started ∨ s.dmode ≠ .none ∨ s.aphc = true) :
    verdictAad n s = .refuse .state := by
  obtain hs | hphase := h
  · rw [verdictAad, if_pos hs]
  · rw [verdictAad, if_pos hphase, ite_self]

variable (hs : s.sess = .started) (hd : s.dmode = .none) (ha : s.aphc = false)

include hs hd ha

theorem verdictAad_param (hn : 16 < n) : verdictAad n s = .refuse .param := by
  simp [verdictAad, hs, hd, ha, hn]

theorem verdictAad_zero : verdictAad 0 s = .noop := by
  simp [verdictAad, hs, hd, ha]

theorem verdictAad_past_limit (h1 : 1 ≤ n) (h16 : n ≤ 16) (hl : Config.lenLimit < s.lenA.toNat + n) :
    verdictAad n s = .limit := by
  simp [verdictAad, hs, hd, ha, hl, Nat.not_lt.mpr h16, Nat.ne_of_gt h1]

end

/-- The effect of AAD while its phase is open, under a settled key. -/
theorem effectAad_settled {n : Nat} {s : State} (hk : s.keyPort = .settled) (ha : s.aphc = false) :
    effectAad n s = { s with
      acc := fold s.m s.acc (pad s.opnd n), lenA := s.lenA + BitVec.ofNat 64 n
      aphc := decide (n < 16), err := .ok } := by
  rw [effectAad, foldNow_settled _ _ hk, ha, Bool.false_or]

/-- Settles O29: the verdicts of AAD in their order. -/
theorem aadFoldsOneChunk : Obligations.AadFoldsOneChunk := by
  refine ⟨fun d n hn => decode_encode (i := .aad n) hn rfl, fun s n hs hd ha hk h1 h16 hl => ?_, fun s hs hd ha => ?_,
    fun s n h => ?_, fun s n hs hd ha hn => ?_, fun s n hs hd ha h1 h16 hl => ?_⟩
  · refine (exec_of_verdict (i := .aad n)
      (verdictAad_perform.mpr ⟨hs, hd, ha, h16, Nat.ne_of_gt h1, hl⟩)).trans ?_
    exact congrArg Host.Outcome.next (effectAad_settled hk ha)
  · exact exec_of_verdict (i := .aad 0) (verdictAad_zero hs hd ha)
  · exact exec_of_verdict (i := .aad n) (verdictAad_state h)
  · exact exec_of_verdict (i := .aad n) (verdictAad_param hs hd ha hn)
  · exact exec_of_verdict (i := .aad n) (verdictAad_past_limit hs hd ha h1 h16 hl)

/-! ### ENC, DEC and GHASHC -/

/-- A data command with its mode (10_state.md R44). -/
inductive DataCommand : (Nat → Instr) → DMode → Prop
  | enc : DataCommand .enc .enc
  | dec : DataCommand .dec .dec
  | ghashc : DataCommand .ghashc .hash

section

variable {mk : Nat → Instr} {d : DMode} {n : Nat} {s : State}

theorem verdictData_state (h : ¬ DataOpen d s) : verdictData d n s = .refuse .state := by
  by_cases hs : s.sess = .started
  · have hphase : (s.dmode ≠ .none ∧ s.dmode ≠ d) ∨ s.dclosed = true := by
      by_contra hopen
      obtain ⟨hmode, hclosed⟩ := not_or.mp hopen
      exact h ⟨hs, by tauto, Bool.eq_false_iff.mpr hclosed⟩
    rw [verdictData, if_pos hphase, ite_self]
  · rw [verdictData, if_pos hs]

/-- Where a data command is allowed only LEN and the block limit are left to check. -/
theorem verdictData_of_open (h : DataOpen d s) : verdictData d n s =
    if n > 16 then .refuse .param else if n = 0 then .noop
    else if s.blkCnt.toNat + 1 > Config.blkLimit then .limit else .perform := by
  obtain ⟨hs, hmode, hopen⟩ := h
  have hphase : ¬ ((s.dmode ≠ .none ∧ s.dmode ≠ d) ∨ s.dclosed = true) := by
    rw [hopen]; tauto
  rw [verdictData, if_neg (not_not.mpr hs), if_neg hphase]

theorem verdictData_perform_of_open (h : DataOpen d s) (h1 : 1 ≤ n) (h16 : n ≤ 16)
    (hl : s.blkCnt.toNat + 1 ≤ Config.blkLimit) : verdictData d n s = .perform := by
  obtain ⟨hs, hmode, hopen⟩ := h
  exact verdictData_perform.mpr ⟨hs, hmode, hopen, h16, Nat.ne_of_gt h1, hl⟩

namespace DataCommand

theorem verdict (hc : DataCommand mk d) (n : Nat) (s : State) : commandVerdict (mk n) s = verdictData d n s := by
  cases hc <;> rfl

/-- The answers of a data command that is not performed (42_session.md R204 to R207, R210). -/
theorem not_performed (hc : DataCommand mk d) :
    (∀ s : State, DataOpen d s → exec (mk 0) s = .next { s with err := .ok }) ∧
    (∀ (s : State) (n : Nat), ¬ DataOpen d s → exec (mk n) s = .next { s with err := .state }) ∧
    (∀ (s : State) (n : Nat), DataOpen d s → 16 < n → exec (mk n) s = .next { s with err := .param }) ∧
    (∀ (s : State) (n : Nat), DataOpen d s → 1 ≤ n → n ≤ 16 → 2 ^ 32 - 2 < s.blkCnt.toNat + 1 →
      exec (mk n) s = .next { s with sess := .fault, err := .limit }) := by
  refine ⟨fun s ho => ?_, fun s n ho => ?_, fun s n ho hn => ?_, fun s n ho h1 h16 hl => ?_⟩
  · exact exec_of_verdict ((hc.verdict 0 s).trans (verdictData_of_open ho))
  · exact exec_of_verdict ((hc.verdict n s).trans (verdictData_state ho))
  · exact exec_of_verdict ((hc.verdict n s).trans ((verdictData_of_open ho).trans (if_pos hn)))
  · have hv : verdictData d n s = .limit := by
      rw [verdictData_of_open ho, if_neg (Nat.not_lt.mpr h16), if_neg (Nat.ne_of_gt h1)]
      exact if_pos hl
    exact exec_of_verdict ((hc.verdict n s).trans hv)

/-- A data command that is performed. -/
theorem performed (hc : DataCommand mk d) (ho : DataOpen d s) (h1 : 1 ≤ n) (h16 : n ≤ 16)
    (hl : s.blkCnt.toNat + 1 ≤ Config.blkLimit) : exec (mk n) s = .next (commandEffect (mk n) s) :=
  exec_of_verdict ((hc.verdict n s).trans (verdictData_perform_of_open ho h1 h16 hl))

end DataCommand

/-- The counters and phase flags while the data are open. -/
theorem commitData_of_open (hopen : s.dclosed = false) : commitData d n s = { s with
    lenC := s.lenC + BitVec.ofNat 64 n, blkCnt := s.blkCnt + 1, dmode := d, aphc := true
    dclosed := decide (n < 16), err := .ok } := by
  rw [commitData, hopen, Bool.false_or]

/-- The output of ENC and DEC under a settled key (42_session.md R205, R206). -/
theorem keystreamXor_settled (hk : s.keyPort = .settled) (n : Nat) (civ : Block) :
    keystreamXor n civ s = pad (s.opnd ^^^ Config.cipher s.keyEpoch civ) n := by
  rw [keystreamXor_eq, cipherAnswer_settled civ hk]

/-- The keystream part of ENC and DEC, and the fold of the chunk `c`, under a settled key. -/
theorem ctrStep_settled (hk : s.keyPort = .settled) (n : Nat) (c : Block) : ctrStep n c s = { s with
    civ := inc32 s.civ, dout := pad (s.opnd ^^^ Config.cipher s.keyEpoch (inc32 s.civ)) n
    acc := fold s.m s.acc c, cipherLog := inc32 s.civ :: s.cipherLog } := by
  rw [ctrStep, keystreamXor_settled hk, foldNow_settled _ _ hk]
  rfl

variable (hk : s.keyPort = .settled) (hopen : s.dclosed = false)

include hk hopen

/-- The effect of ENC: the output is the chunk folded (42_session.md R205). -/
theorem effectEnc_settled : effectEnc n s = { s with
    civ := inc32 s.civ
    dout := pad (s.opnd ^^^ Config.cipher s.keyEpoch (inc32 s.civ)) n
    acc := fold s.m s.acc (pad (s.opnd ^^^ Config.cipher s.keyEpoch (inc32 s.civ)) n)
    lenC := s.lenC + BitVec.ofNat 64 n, blkCnt := s.blkCnt + 1
    dmode := .enc, aphc := true, dclosed := decide (n < 16), err := .ok
    cipherLog := inc32 s.civ :: s.cipherLog } := by
  rw [effectEnc, commitData_of_open (s := ctrStep n _ s) hopen, ctrStep_settled hk, keystreamXor_settled hk]

/-- The effect of DEC: the input is the chunk folded (42_session.md R206). -/
theorem effectDec_settled : effectDec n s = { s with
    civ := inc32 s.civ
    dout := pad (s.opnd ^^^ Config.cipher s.keyEpoch (inc32 s.civ)) n
    acc := fold s.m s.acc (pad s.opnd n)
    lenC := s.lenC + BitVec.ofNat 64 n, blkCnt := s.blkCnt + 1
    dmode := .dec, aphc := true, dclosed := decide (n < 16), err := .ok
    cipherLog := inc32 s.civ :: s.cipherLog } := by
  rw [effectDec, commitData_of_open (s := ctrStep n _ s) hopen, ctrStep_settled hk]

/-- The effect of GHASHC: the fold alone (42_session.md R207). -/
theorem effectGhashc_settled : effectGhashc n s = { s with
    acc := fold s.m s.acc (pad s.opnd n)
    lenC := s.lenC + BitVec.ofNat 64 n, blkCnt := s.blkCnt + 1
    dmode := .hash, aphc := true, dclosed := decide (n < 16), err := .ok } := by
  rw [effectGhashc, foldNow_settled _ _ hk]
  exact commitData_of_open (s := { s with acc := fold s.m s.acc (pad s.opnd n) }) hopen

end

/-- Settles O30: the effect of ENC, whose output is the chunk folded. -/
theorem encEncryptsOneChunk : Obligations.EncEncryptsOneChunk := by
  refine ⟨fun d n hn => decode_encode (i := .enc n) hn rfl, fun s n ho hk h1 h16 hl => ?_,
    DataCommand.enc.not_performed⟩
  have ⟨_, _, hopen⟩ := ho
  rw [DataCommand.enc.performed ho h1 h16 hl]
  exact congrArg Host.Outcome.next (effectEnc_settled hk hopen)

/-- Settles O31: the effect of DEC, whose input is the chunk folded. -/
theorem decDecryptsOneChunk : Obligations.DecDecryptsOneChunk := by
  refine ⟨fun d n hn => decode_encode (i := .dec n) hn rfl, fun s n ho hk h1 h16 hl => ?_,
    DataCommand.dec.not_performed⟩
  have ⟨_, _, hopen⟩ := ho
  rw [DataCommand.dec.performed ho h1 h16 hl]
  exact congrArg Host.Outcome.next (effectDec_settled hk hopen)

/-- Settles O32: the effect of GHASHC, the fold without a keystream. -/
theorem ghashcFoldsOneCiphertextChunk : Obligations.GhashcFoldsOneCiphertextChunk := by
  refine ⟨fun d n hn => decode_encode (i := .ghashc n) hn rfl, fun s n ho hk h1 h16 hl => ?_,
    DataCommand.ghashc.not_performed⟩
  have ⟨_, _, hopen⟩ := ho
  rw [DataCommand.ghashc.performed ho h1 h16 hl]
  exact congrArg Host.Outcome.next (effectGhashc_settled hk hopen)

/-! ### STATE after success -/

theorem verdictMulh_ne_noop (s : State) : verdictMulh s ≠ .noop := by
  unfold verdictMulh; split_ifs <;> nofun

theorem verdictTag_ne_noop (n : Nat) (s : State) : verdictTag n s ≠ .noop := by
  unfold verdictTag; split_ifs <;> nofun

theorem verdictAad_noop {n : Nat} {s : State} (h : verdictAad n s = .noop) : s.sess = .started := by
  unfold verdictAad at h; split_ifs at h; simp_all

theorem verdictData_noop_started {d : DMode} {n : Nat} {s : State} (h : verdictData d n s = .noop) :
    s.sess = .started := by
  unfold verdictData at h; split_ifs at h; simp_all

/-- STATE after each command that succeeds: the last column of the table of 42_session.md R200. -/
def sessAfter (i : Instr) (s : State) : SessState :=
  match i with
  | .nop | .mulh => s.sess
  | .genh | .loadh => .idle
  | .ivblk => .ivload
  | .start _ | .aad _ | .enc _ | .dec _ | .ghashc _ => .started
  | .finish _ | .check _ => .finished

/-- A no-op is NOP or an empty chunk of an open session, so it leaves STATE as the table says. -/
theorem sess_eq_sessAfter_of_noop {i : Instr} {s : State} (h : commandVerdict i s = .noop) :
    s.sess = sessAfter i s := by
  cases i with
  | nop => rfl
  | genh => cases h
  | loadh => cases h
  | mulh => rfl
  | ivblk => exact absurd h (verdictIvblk_ne_noop s)
  | start n => exact absurd h (verdictStart_ne_noop n s)
  | aad n => exact verdictAad_noop h
  | enc n => exact verdictData_noop_started h
  | dec n => exact verdictData_noop_started h
  | ghashc n => exact verdictData_noop_started h
  | finish n => exact absurd h (verdictTag_ne_noop n s)
  | check n => exact absurd h (verdictTag_ne_noop n s)

/-- AAD and the data commands keep STARTED; the effect of every other command writes STATE or keeps it. -/
theorem commandEffect_sess {i : Instr} {s : State} (h : commandVerdict i s = .perform) :
    (commandEffect i s).sess = sessAfter i s := by
  cases i with
  | aad n => exact (verdictAad_perform.mp h).1
  | enc n => exact (verdictData_perform.mp h).1
  | dec n => exact (verdictData_perform.mp h).1
  | ghashc n => exact (verdictData_perform.mp h).1
  | _ => rfl

theorem exec_sess_of_success {i : Instr} {s t : State} (h : exec i s = .next t)
    (hok : t.err = .ok ∨ t.err = .authfail) : t.sess = sessAfter i s := by
  obtain ⟨e, hv, rfl⟩ | ⟨-, rfl⟩ | ⟨hv, rfl⟩ | ⟨hv, rfl⟩ := exec_cases h
  · rw [setErr_err] at hok
    obtain rfl | rfl | rfl := refuse_code hv <;> exact absurd hok (by decide)
  · exact absurd hok (by simp)
  · exact sess_eq_sessAfter_of_noop hv
  · exact commandEffect_sess hv

/-- Settles O42: the table's last column, command by command. -/
theorem sessionStateAfterSuccess : Obligations.SessionStateAfterSuccess := by
  intro i s t h hok
  have hsess := exec_sess_of_success h hok
  cases i <;> exact hsess

end Sys2Proof.Machine
end

section
/-! Proofs about the streams of a session (spec/42_session.md R212, R213). One turn of a stream is a command on one
chunk; what it leaves is stated of the part of the state that later commands of the session depend on, and turns
compose. -/

namespace Sys2Proof.Machine

open Sys2Proof

/-! ### The session's part of the state -/

/-- The state with the operand and result registers, ERR, AUTH_OK and the model's records set aside. -/
def sessionPart (s : State) : State :=
  { s with
    din := 0, dout := 0, opnd := 0, pend := 0, err := .ok, authOk := false, cipherLog := [], replies := [] }

/-- Under a settled key the end of a completion clears BUSY and moves nothing else. -/
theorem retire_settled {s : State} (hk : s.keyPort = .settled) : retire s = { s with busy := false } := by
  simp [retire, nextFree, hk, KeyPort.afterFlight]

/-- A turn whose command leaves `u`, with ERR = OK, under a settled key. -/
theorem turn_succeeds (polls : Nat) {i : Instr} (x : Block) {s : State} {u : List BusReply → State}
    (hb : s.busy = false) (hwf : i.wellFormed s.debugMulh = true) (hx : ∀ rs, exec i (issued i x rs s) = .next (u rs))
    (hok : ∀ rs, (u rs).err = .ok) (hk : ∀ rs, (u rs).keyPort = .settled) :
    ∃ rs t, turn polls i x s = .next (true, t) ∧ sessionPart t = { sessionPart (u rs) with busy := false } ∧
      t.dout = (u rs).dout := by
  obtain ⟨rs, hrs⟩ := turn_next polls x hb hwf
  obtain ⟨rs', hturn⟩ := hrs _ (hx rs)
  rw [decide_eq_true (hok rs), retire_settled (hk rs)] at hturn
  exact ⟨rs, _, hturn, rfl, rfl⟩

/-- The loop of `feed`: where every turn succeeds and a whole chunk leaves the session ready for the rest, the whole
stream is fed. -/
theorem feed_of_turns (polls : Nat) {mk : Nat → Instr} {Ready : List (List Byte) → State → Prop}
    {Fed : List (List Byte) → State → State → Prop} (hrefl : ∀ s, Fed [] s s)
    (happend : ∀ cs ds {s t u}, Fed cs s t → Fed ds t u → Fed (cs ++ ds) s u)
    (hturn : ∀ {c cs s}, 1 ≤ c.length → c.length ≤ 16 → Ready (c :: cs) s →
      ∃ t, turn polls (mk c.length) (blockOf c) s = .next (true, t) ∧ Fed [c] s t ∧ (c.length = 16 → Ready cs t))
    {cs : List (List Byte)} (hch : Chunked cs) {s : State} (hr : cs ≠ [] → Ready cs s) :
    ∃ t, feed polls mk cs s = .next (true, t) ∧ Fed cs s t := by
  induction cs generalizing s with
  | nil => exact ⟨s, rfl, hrefl s⟩
  | cons c cs ih =>
    obtain ⟨h1, h16, hfull, hcs⟩ := hch
    obtain ⟨t, hfirst, hfed, hnext⟩ := hturn h1 h16 (hr (List.cons_ne_nil c cs))
    obtain ⟨u, hfeed, hrest⟩ := ih hcs fun hne => hnext (hfull hne)
    refine ⟨u, ?_, happend [c] cs hfed hrest⟩
    rw [feed_cons, hostThen_of_next hfirst, if_pos rfl, hfeed]

/-! ### AAD -/

/-- AAD of `n` bytes may be fed: the phase is open, under a settled key, and LEN_LIMIT is not passed. -/
structure AadReady (n : Nat) (s : State) : Prop where
  idle : s.busy = false
  key : s.keyPort = .settled
  started : s.sess = .started
  mode : s.dmode = .none
  phase : s.aphc = false
  limit : s.lenA.toNat + n ≤ Config.lenLimit

/-- What feeding chunks of AAD does to the session. -/
structure AadFed (cs : List (List Byte)) (s t : State) : Prop where
  part : sessionPart t = { sessionPart s with
    acc := foldChunks s.m s.acc cs, lenA := s.lenA + BitVec.ofNat 64 cs.flatten.length, aphc := t.aphc }

theorem AadFed.refl (s : State) : AadFed [] s s :=
  ⟨by simp [foldChunks, sessionPart]⟩

theorem AadFed.append {cs ds : List (List Byte)} {s t u : State} (hst : AadFed cs s t) (htu : AadFed ds t u) :
    AadFed (cs ++ ds) s u := by
  have hm : t.m = s.m := (congrArg State.m hst.part :)
  have hacc : t.acc = foldChunks s.m s.acc cs := (congrArg State.acc hst.part :)
  have hlen : t.lenA = s.lenA + BitVec.ofNat 64 cs.flatten.length := (congrArg State.lenA hst.part :)
  constructor
  rw [htu.part, hst.part, hm, hacc, hlen, foldChunks_append, List.flatten_append, List.length_append,
    BitVec.ofNat_add, BitVec.add_assoc]

/-- After whole blocks of AAD the rest may follow. -/
theorem AadFed.ready {n : Nat} {c : List Byte} {s t : State} (hfed : AadFed [c] s t)
    (hr : AadReady (c.length + n) s) (ha : t.aphc = false) : AadReady n t := by
  obtain ⟨hb, hk, hs, hd, -, hl⟩ := hr
  have hlen : t.lenA = s.lenA + BitVec.ofNat 64 c.length := by
    rw [← List.flatten_singleton (l := c)]
    exact (congrArg State.lenA hfed.part :)
  exact {
    idle := (congrArg State.busy hfed.part).trans hb
    key := (congrArg State.keyPort hfed.part).trans hk
    started := (congrArg State.sess hfed.part).trans hs
    mode := (congrArg State.dmode hfed.part).trans hd
    phase := ha
    limit := by
      rw [hlen, toNat_add_len (by simp only [Config.lenLimit] at hl; omega)]
      omega }

/-- One turn of an AAD stream. -/
theorem turn_aad (polls : Nat) {c : List Byte} (h1 : 1 ≤ c.length) (h16 : c.length ≤ 16) {n : Nat} {s : State}
    (hr : AadReady (c.length + n) s) :
    ∃ t, turn polls (.aad c.length) (blockOf c) s = .next (true, t) ∧
      AadFed [c] s t ∧ (c.length = 16 → AadReady n t) := by
  obtain ⟨hb, hk, hs, hd, ha, hl⟩ := id hr
  have hwf : (Instr.aad c.length).wellFormed s.debugMulh = true :=
    Bool.and_eq_true_iff.mpr ⟨decide_eq_true (h16.trans (by decide)), rfl⟩
  have hv (rs) : verdictAad c.length (issued (.aad c.length) (blockOf c) rs s) = .perform :=
    verdictAad_perform.mpr ⟨hs, hd, ha, h16, Nat.ne_of_gt h1, Nat.le_trans (Nat.add_le_add_left (by omega) _) hl⟩
  obtain ⟨rs, t, hturn, hpart, -⟩ := turn_succeeds polls (blockOf c) hb hwf
    (fun rs => exec_of_verdict (i := .aad c.length) (hv rs)) (fun _ => rfl) (fun _ => hk)
  rw [commandEffect, effectAad_settled (s := issued (.aad c.length) (blockOf c) rs s) hk ha] at hpart
  have haphc : t.aphc = decide (c.length < 16) := (congrArg State.aphc hpart :)
  have hfed : AadFed [c] s t := by
    constructor
    rw [hpart, haphc]
    simp [sessionPart, issued, foldChunks, pad_blockOf h1 h16, hb]
  refine ⟨t, hturn, hfed, fun hfull => hfed.ready hr ?_⟩
  rw [haphc, hfull]
  rfl

/-- A stream of AAD is folded chunk by chunk (41_ghash.md R173). -/
theorem feed_aad (polls : Nat) {cs : List (List Byte)} (hch : Chunked cs) {s : State}
    (hr : cs ≠ [] → AadReady cs.flatten.length s) : ∃ t, feed polls .aad cs s = .next (true, t) ∧ AadFed cs s t := by
  refine feed_of_turns (Ready := fun cs => AadReady cs.flatten.length) polls AadFed.refl (fun _ _ => AadFed.append)
    (fun h1 h16 hready => turn_aad polls h1 h16 ?_) hch hr
  rwa [List.flatten_cons, List.length_append] at hready

/-! ### One chunk of data -/

/-- Of the input `x` and the output `y` of a data command of mode `d`, the one that is ciphertext: the output of ENC,
the input of DEC and GHASHC (42_session.md R205 to R207). -/
def ciphertextOf {α : Type} (d : DMode) (x y : α) : α := if d = .enc then y else x

/-- The output of ENC and DEC for one chunk from the counter block `civ` (42_session.md R212). -/
def ctrChunk (cipher : Block → Block) (civ : Block) (c : List Byte) : List Byte :=
  bytesOf c.length (blockOf c ^^^ cipher (inc32 civ))

@[simp] theorem ciphertextOf_length (d : DMode) (cipher : Block → Block) (civ : Block) (c : List Byte) :
    (ciphertextOf d c (ctrChunk cipher civ c)).length = c.length := by
  unfold ciphertextOf
  split
  · exact bytesOf_length _ _
  · rfl

/-- The block folded for a chunk is that of its ciphertext. -/
theorem blockOf_ciphertextOf (d : DMode) (cipher : Block → Block) (civ : Block) {c : List Byte} (h1 : 1 ≤ c.length)
    (h16 : c.length ≤ 16) : blockOf (ciphertextOf d c (ctrChunk cipher civ c)) =
      ciphertextOf d (pad (blockOf c) c.length) (pad (blockOf c ^^^ cipher (inc32 civ)) c.length) := by
  unfold ciphertextOf
  split
  · exact blockOf_bytesOf _ h1 h16
  · exact (pad_blockOf h1 h16).symm

/-- The effect of a data command while the data are open, under a settled key. -/
theorem DataCommand.effect_settled {mk : Nat → Instr} {d : DMode} (hc : DataCommand mk d) {n : Nat} {s : State}
    (hk : s.keyPort = .settled) (hopen : s.dclosed = false) :
    ∃ civ dout log, commandEffect (mk n) s = { s with
      civ := civ, dout := dout
      acc := fold s.m s.acc
        (ciphertextOf d (pad s.opnd n) (pad (s.opnd ^^^ Config.cipher s.keyEpoch (inc32 s.civ)) n))
      lenC := s.lenC + BitVec.ofNat 64 n, blkCnt := s.blkCnt + 1
      dmode := d, aphc := true, dclosed := decide (n < 16), err := .ok, cipherLog := log } ∧
    (d ≠ .hash → civ = inc32 s.civ ∧ dout = pad (s.opnd ^^^ Config.cipher s.keyEpoch (inc32 s.civ)) n) := by
  cases hc with
  | enc => exact ⟨_, _, _, effectEnc_settled hk hopen, fun _ => ⟨rfl, rfl⟩⟩
  | dec => exact ⟨_, _, _, effectDec_settled hk hopen, fun _ => ⟨rfl, rfl⟩⟩
  | ghashc => exact ⟨_, _, _, effectGhashc_settled hk hopen, fun hne => absurd rfl hne⟩

theorem DataCommand.effect_err {mk : Nat → Instr} {d : DMode} (hc : DataCommand mk d) (n : Nat) (s : State) :
    (commandEffect (mk n) s).err = .ok := by cases hc <;> rfl

theorem DataCommand.effect_keyPort {mk : Nat → Instr} {d : DMode} (hc : DataCommand mk d) (n : Nat) (s : State) :
    (commandEffect (mk n) s).keyPort = s.keyPort := by cases hc <;> rfl

theorem DataCommand.wellFormed {mk : Nat → Instr} {d : DMode} (hc : DataCommand mk d) {n : Nat} (hn : n ≤ 16)
    (b : Bool) : (mk n).wellFormed b = true := by
  have hlen : n ≤ 31 := hn.trans (by decide)
  cases hc <;> exact Bool.and_eq_true_iff.mpr ⟨decide_eq_true hlen, rfl⟩

/-- `k` chunks of data of mode `d` may be fed, under a settled key. -/
structure DataReady (d : DMode) (k : Nat) (s : State) : Prop where
  idle : s.busy = false
  key : s.keyPort = .settled
  allowed : DataOpen d s
  limit : s.blkCnt.toNat + k ≤ Config.blkLimit

/-- What feeding data with the ciphertext chunks `cs` does to the session. -/
structure DataFed (cs : List (List Byte)) (s t : State) : Prop where
  part : sessionPart t = { sessionPart s with
    civ := t.civ, acc := foldChunks s.m s.acc cs, lenC := s.lenC + BitVec.ofNat 64 cs.flatten.length
    blkCnt := s.blkCnt + BitVec.ofNat 32 cs.length, aphc := t.aphc, dmode := t.dmode, dclosed := t.dclosed }

theorem DataFed.refl (s : State) : DataFed [] s s :=
  ⟨by simp [foldChunks, sessionPart]⟩

theorem DataFed.append {cs ds : List (List Byte)} {s t u : State} (hst : DataFed cs s t) (htu : DataFed ds t u) :
    DataFed (cs ++ ds) s u := by
  have hm : t.m = s.m := (congrArg State.m hst.part :)
  have hacc : t.acc = foldChunks s.m s.acc cs := (congrArg State.acc hst.part :)
  have hlen : t.lenC = s.lenC + BitVec.ofNat 64 cs.flatten.length := (congrArg State.lenC hst.part :)
  have hblk : t.blkCnt = s.blkCnt + BitVec.ofNat 32 cs.length := (congrArg State.blkCnt hst.part :)
  constructor
  rw [htu.part, hst.part, hm, hacc, hlen, hblk, foldChunks_append, List.flatten_append, List.length_append,
    List.length_append, BitVec.ofNat_add, BitVec.ofNat_add, BitVec.add_assoc, BitVec.add_assoc]

/-- After a whole block of data the next chunk may follow. -/
theorem DataFed.ready {d : DMode} {k : Nat} {c : List Byte} {s t : State} (hfed : DataFed [c] s t)
    (hr : DataReady d (k + 1) s) (hd : t.dmode = d) (hopen : t.dclosed = false) : DataReady d k t := by
  obtain ⟨hb, hk, ⟨hs, -, -⟩, hl⟩ := hr
  have hblk : t.blkCnt = s.blkCnt + 1 := (congrArg State.blkCnt hfed.part :)
  exact {
    idle := (congrArg State.busy hfed.part).trans hb
    key := (congrArg State.keyPort hfed.part).trans hk
    allowed := ⟨(congrArg State.sess hfed.part).trans hs, .inr hd, hopen⟩
    limit := by
      rw [hblk, toNat_add_blk (by omega)]
      omega }

/-- One turn of a data stream. -/
theorem turn_data (polls : Nat) {mk : Nat → Instr} {d : DMode} (hc : DataCommand mk d) {c : List Byte}
    (h1 : 1 ≤ c.length) (h16 : c.length ≤ 16) {k : Nat} {s : State} (hr : DataReady d (k + 1) s) :
    ∃ t, turn polls (mk c.length) (blockOf c) s = .next (true, t) ∧
      DataFed [ciphertextOf d c (ctrChunk (Config.cipher s.keyEpoch) s.civ c)] s t ∧
      (c.length = 16 → DataReady d k t) ∧
      (d ≠ .hash → t.civ = inc32 s.civ ∧
        bytesOf c.length t.dout = ctrChunk (Config.cipher s.keyEpoch) s.civ c) := by
  obtain ⟨hb, hk, ho, hl⟩ := id hr
  have ⟨_, _, hopen⟩ := ho
  have hblk : s.blkCnt.toNat + 1 ≤ Config.blkLimit := by omega
  obtain ⟨rs, t, hturn, hpart, hdout⟩ := turn_succeeds polls (blockOf c) hb (hc.wellFormed h16 s.debugMulh)
    (fun rs => hc.performed (s := issued (mk c.length) (blockOf c) rs s) ho h1 h16 hblk)
    (fun _ => hc.effect_err _ _) (fun _ => (hc.effect_keyPort _ _).trans hk)
  obtain ⟨civ, y, log, heffect, hctr⟩ := hc.effect_settled (n := c.length)
    (s := issued (mk c.length) (blockOf c) rs s) hk hopen
  rw [heffect] at hpart hdout
  have hciv : t.civ = civ := (congrArg State.civ hpart :)
  have haphc : t.aphc = true := (congrArg State.aphc hpart :)
  have hmode : t.dmode = d := (congrArg State.dmode hpart :)
  have hclosed : t.dclosed = decide (c.length < 16) := (congrArg State.dclosed hpart :)
  have hfed : DataFed [ciphertextOf d c (ctrChunk (Config.cipher s.keyEpoch) s.civ c)] s t := by
    constructor
    rw [hpart, hciv, haphc, hmode, hclosed]
    simp [sessionPart, issued, foldChunks, hb, blockOf_ciphertextOf d _ _ h1 h16]
  refine ⟨t, hturn, hfed, fun hfull => hfed.ready hr hmode ?_, fun hne => ?_⟩
  · rw [hclosed, hfull]
    rfl
  · obtain ⟨rfl, rfl⟩ := hctr hne
    exact ⟨hciv, (congrArg (bytesOf c.length) hdout).trans (bytesOf_pad _ h1 h16)⟩

/-! ### Streams of data -/

/-- A GHASHC stream folds its chunks. -/
theorem feed_ghashc (polls : Nat) {cs : List (List Byte)} (hch : Chunked cs) {s : State}
    (hr : cs ≠ [] → DataReady .hash cs.length s) :
    ∃ t, feed polls .ghashc cs s = .next (true, t) ∧ DataFed cs s t := by
  refine feed_of_turns (Ready := fun cs => DataReady .hash cs.length) polls DataFed.refl (fun _ _ => DataFed.append)
    (fun h1 h16 hready => ?_) hch hr
  obtain ⟨t, hturn, hfed, hnext, -⟩ := turn_data polls .ghashc h1 h16 hready
  exact ⟨t, hturn, hfed, hnext⟩

/-- The ciphertext chunks of a stream of mode `d` over the input chunks, from the counter block `civ`. -/
def cipherChunks (d : DMode) (cipher : Block → Block) : Block → List (List Byte) → List (List Byte)
  | _, [] => []
  | civ, c :: cs => ciphertextOf d c (ctrChunk cipher civ c) :: cipherChunks d cipher (inc32 civ) cs

section

variable (d : DMode) (cipher : Block → Block) (civ : Block) {cs : List (List Byte)}

theorem cipherChunks_eq_nil_iff : cipherChunks d cipher civ cs = [] ↔ cs = [] := by
  cases cs <;> simp [cipherChunks]

theorem chunked_cipherChunks (h : Chunked cs) : Chunked (cipherChunks d cipher civ cs) := by
  induction cs generalizing civ with
  | nil => trivial
  | cons c cs ih =>
    obtain ⟨h1, h16, hfull, hcs⟩ := h
    refine ⟨?_, ?_, fun hne => ?_, ih (inc32 civ) hcs⟩ <;> rw [ciphertextOf_length]
    · exact h1
    · exact h16
    · exact hfull fun hnil => hne ((cipherChunks_eq_nil_iff d cipher _).mpr hnil)

/-- The ciphertext of DEC is its input. -/
theorem cipherChunks_dec : cipherChunks .dec cipher civ cs = cs := by
  induction cs generalizing civ with
  | nil => rfl
  | cons c cs ih => exact congrArg (c :: ·) (ih (inc32 civ))

/-- The ciphertext of ENC is the CTR stream. -/
theorem flatten_cipherChunks_enc : (cipherChunks .enc cipher civ cs).flatten = ctrStream cipher civ cs := by
  induction cs generalizing civ with
  | nil => rfl
  | cons c cs ih => exact congrArg (ctrChunk cipher civ c ++ ·) (ih (inc32 civ))

/-- The CTR stream has the length of its input. -/
theorem ctrStream_length : (ctrStream cipher civ cs).length = cs.flatten.length := by
  induction cs generalizing civ with
  | nil => rfl
  | cons c cs ih =>
    rw [ctrStream, List.length_append, bytesOf_length, ih, List.flatten_cons, List.length_append]

end

/-- A stream of ENC or DEC gives the CTR stream, advances CIV once for each chunk, and folds its ciphertext
(42_session.md R212, R213). -/
theorem feedOut_data (polls : Nat) {mk : Nat → Instr} {d : DMode} (hc : DataCommand mk d) (hd : d ≠ .hash)
    {cs : List (List Byte)} (hch : Chunked cs) {s : State} (hr : cs ≠ [] → DataReady d cs.length s)
    {cipher : Block → Block} (hcipher : Config.cipher s.keyEpoch = cipher) {civ : Block} (hciv : s.civ = civ) :
    ∃ t, feedOut polls mk cs s = .next (some (ctrStream cipher civ cs), t) ∧
      t.civ = inc32^[cs.length] civ ∧ DataFed (cipherChunks d cipher civ cs) s t := by
  induction cs generalizing s civ with
  | nil => exact ⟨s, rfl, hciv, DataFed.refl s⟩
  | cons c cs ih =>
    obtain ⟨h1, h16, hfull, hcs⟩ := hch
    obtain ⟨t, hturn, hfed, hnext, hctr⟩ := turn_data polls hc h1 h16 (hr (List.cons_ne_nil c cs))
    rw [hcipher, hciv] at hfed hctr
    obtain ⟨hciv', hout⟩ := hctr hd
    have hkey : t.keyEpoch = s.keyEpoch := (congrArg State.keyEpoch hfed.part :)
    obtain ⟨rs, hdout⟩ := dout_next t
    obtain ⟨u, hfeed, hlast, hrest⟩ := ih (s := { t with replies := rs }) hcs
      (fun hne => { hnext (hfull hne) with }) ((congrArg Config.cipher hkey).trans hcipher) hciv'
    refine ⟨u, ?_, hlast, hfed.append (ds := cipherChunks d cipher _ cs) { hrest with }⟩
    rw [feedOut_cons, hostThen_of_next hturn, if_pos rfl, hostThen_of_next hdout, hostThen_of_next hfeed, hout]
    rfl

/-! ### The obligations -/

/-- Settles O57: an open session takes the stream chunk by chunk. -/
theorem dataCommandsAreTheCtrStream : Obligations.DataCommandsAreTheCtrStream := by
  intro polls s x hs hb hk hopen hl
  have hready {d : DMode} (hd : s.dmode = .none ∨ s.dmode = d) : DataReady d (chunks x).length s :=
    ⟨hb, hk, ⟨hs, hd, hopen⟩, hl⟩
  refine ⟨fun hd => ?_, fun hd => ?_⟩
  · obtain ⟨t, hfeed, hciv, -⟩ := feedOut_data polls .enc nofun (chunked_chunks x) (fun _ => hready hd) rfl rfl
    exact ⟨t, hfeed, hciv⟩
  · obtain ⟨t, hfeed, hciv, -⟩ := feedOut_data polls .dec nofun (chunked_chunks x) (fun _ => hready hd) rfl rfl
    exact ⟨t, hfeed, hciv⟩

/-- A byte counter that starts at 0 ends at the length of the string fed. -/
theorem counter_of_fed {c : BitVec 64} {bs : List Byte} (hc : c = 0) (h : bs.length < 2 ^ 64) :
    (c + BitVec.ofNat 64 (chunks bs).flatten.length).toNat = bs.length := by
  rw [hc, flatten_chunks, BitVec.ofNat_eq_ofNat, BitVec.zero_add, BitVec.toNat_ofNat, Nat.mod_eq_of_lt h]

/-- ACC, LENA and LENC of a fresh session after its AAD `a` and the ciphertext `x`. -/
theorem accumulates_of_fed {s s₁ t : State} {a x : List Byte} (hf : FreshSession s) (ha : a.length ≤ Config.lenLimit)
    (hx : x.length ≤ 16 * Config.blkLimit) (haad : AadFed (chunks a) s s₁) (hdata : DataFed (chunks x) s₁ t) :
    t.acc = multiplyData s.m (multiplyData s.m 0 a) x ∧ t.lenA.toNat = a.length ∧ t.lenC.toNat = x.length := by
  have hm : s₁.m = s.m := (congrArg State.m haad.part :)
  have hacc₁ : s₁.acc = foldChunks s.m s.acc (chunks a) := (congrArg State.acc haad.part :)
  have hlenA₁ : s₁.lenA = s.lenA + BitVec.ofNat 64 (chunks a).flatten.length := (congrArg State.lenA haad.part :)
  have hlenC₁ : s₁.lenC = s.lenC := (congrArg State.lenC haad.part :)
  have hacc : t.acc = foldChunks s₁.m s₁.acc (chunks x) := (congrArg State.acc hdata.part :)
  have hlenA : t.lenA = s₁.lenA := (congrArg State.lenA hdata.part :)
  have hlenC : t.lenC = s₁.lenC + BitVec.ofNat 64 (chunks x).flatten.length := (congrArg State.lenC hdata.part :)
  simp only [Config.lenLimit, Config.blkLimit] at ha hx
  refine ⟨?_, ?_, ?_⟩
  · rw [hacc, hm, hacc₁, hf.acc, multiplyData_eq_foldChunks, multiplyData_eq_foldChunks]
  · rw [hlenA, hlenA₁, counter_of_fed hf.lenA (by omega)]
  · rw [hlenC, counter_of_fed (hlenC₁.trans hf.lenC) (by omega)]

/-- Within the block limit a fresh session whose AAD has been fed takes data of any mode. -/
theorem dataReady_after_aad {s s₁ : State} {cs : List (List Byte)} {x : List Byte} (hf : FreshSession s)
    (haad : AadFed cs s s₁) (hx : x.length ≤ 16 * Config.blkLimit) (d : DMode) :
    DataReady d (chunks x).length s₁ := by
  have hblk : s₁.blkCnt = 0 := (congrArg State.blkCnt haad.part :).trans hf.blkCnt
  have hcount := chunked_count (chunked_chunks x)
  rw [flatten_chunks] at hcount
  exact {
    idle := (congrArg State.busy haad.part :).trans hf.idleBus
    key := (congrArg State.keyPort haad.part :).trans hf.key
    allowed := ⟨(congrArg State.sess haad.part :).trans hf.started,
      .inl ((congrArg State.dmode haad.part :).trans hf.dmode), (congrArg State.dclosed haad.part :).trans hf.dclosed⟩
    limit := by
      rw [hblk]
      show 0 + _ ≤ _
      omega }

theorem aadReady_of_freshSession {s : State} (hf : FreshSession s) {n : Nat} (hn : n ≤ Config.lenLimit) :
    AadReady n s where
  idle := hf.idleBus
  key := hf.key
  started := hf.started
  mode := hf.dmode
  phase := hf.aphc
  limit := by
    rw [hf.lenA]
    exact (Nat.zero_add n).trans_le hn

/-- Settles O58: AAD and then data of each mode, with the ciphertext chunks of the mode. -/
theorem sessionAccumulatesGhashOfTheStreams : Obligations.SessionAccumulatesGhashOfTheStreams := by
  intro polls s a x hf ha hx
  obtain ⟨s₁, hfeed, haad⟩ := feed_aad polls (chunked_chunks a) (s := s) fun _ => by
    rw [flatten_chunks]
    exact aadReady_of_freshSession hf ha
  have hready := dataReady_after_aad hf haad hx
  refine ⟨s₁, hfeed, ?_, ?_, ?_⟩
  · obtain ⟨t, hrun, hdata⟩ := feed_ghashc polls (chunked_chunks x) fun _ => hready .hash
    exact ⟨t, hrun, accumulates_of_fed hf ha hx haad hdata⟩
  · obtain ⟨t, hrun, -, hdata⟩ := feedOut_data polls .dec nofun (chunked_chunks x) (fun _ => hready .dec) rfl rfl
    rw [cipherChunks_dec] at hdata
    exact ⟨_, t, hrun, accumulates_of_fed hf ha hx haad hdata⟩
  · obtain ⟨t, hrun, -, hdata⟩ := feedOut_data polls .enc nofun (chunked_chunks x) (fun _ => hready .enc) rfl rfl
    have hlen : (ctrStream (Config.cipher s₁.keyEpoch) s₁.civ (chunks x)).length = x.length := by
      rw [ctrStream_length, flatten_chunks]
    rw [← chunks_flatten (chunked_cipherChunks .enc _ _ (chunked_chunks x)), flatten_cipherChunks_enc] at hdata
    obtain ⟨hacc, hlenA, hlenC⟩ := accumulates_of_fed hf ha (hlen.trans_le hx) haad hdata
    exact ⟨_, t, hrun, hacc, hlenA, hlenC, hlen⟩

end Sys2Proof.Machine
end

section
/-! Proofs about FINISH and CHECK (spec/43_tag.md R250 to R260). -/

namespace Sys2Proof.Machine

open Sys2Proof

/-! ### The verdict and the tag -/

section

variable {t : Nat} {s : State}

theorem verdictTag_state (h : s.sess ≠ .started) : verdictTag t s = .refuse .state := if_pos h

theorem verdictTag_param (hs : s.sess = .started) (ht : t < 4 ∨ 16 < t) : verdictTag t s = .refuse .param := by
  rw [verdictTag, if_neg (not_not.mpr hs)]
  exact if_pos ht

theorem tagHash_eq_sessionHash (s : State) : tagHash s = SessionHash s :=
  (BitVec.xor_left_inj s.gctr0).mp (fullTag_eq_sessionTag s)

theorem effectFinish_eq (t : Nat) (s : State) : effectFinish t s = { s with
    acc := SessionHash s, dout := pad (SessionTag s) t, sess := .finished, err := .ok } := by
  rw [effectFinish, tagHash_eq_sessionHash, fullTag_eq_sessionTag]

/-- CHECK of the right tag. -/
theorem effectCheck_of_match (h : bytesOf t (SessionTag s) = bytesOf t s.opnd) : effectCheck t s = { s with
    acc := SessionHash s, dout := 0, sess := .finished, authOk := true, err := .ok } := by
  rw [effectCheck, (tagMatches_iff t s).mpr h, tagHash_eq_sessionHash, Bool.or_true, if_pos rfl]

/-- CHECK of another tag. -/
theorem effectCheck_of_mismatch (h : bytesOf t (SessionTag s) ≠ bytesOf t s.opnd) : effectCheck t s = { s with
    acc := SessionHash s, dout := 0, sess := .finished, err := .authfail } := by
  have hm : tagMatches t s = false := Bool.eq_false_iff.mpr (mt (tagMatches_iff t s).mp h)
  rw [effectCheck, hm, tagHash_eq_sessionHash, Bool.or_false, if_neg Bool.false_ne_true]

variable (hs : s.sess = .started) (h4 : 4 ≤ t) (h16 : t ≤ 16)

include hs h4 h16

theorem exec_finish_perform : exec (.finish t) s = .next (effectFinish t s) :=
  exec_of_verdict (i := .finish t) (verdictTag_perform.mpr ⟨hs, h4, h16⟩)

theorem exec_check_perform : exec (.check t) s = .next (effectCheck t s) :=
  exec_of_verdict (i := .check t) (verdictTag_perform.mpr ⟨hs, h4, h16⟩)

end

/-- Settles O33: the two refusals of the verdict, and the effect with the tag of the session. -/
theorem finishProducesTheTag : Obligations.FinishProducesTheTag := by
  refine ⟨fun d n hn => decode_encode (i := .finish n) hn rfl, fun s t hs h4 h16 => ?_, fun s t hs => ?_,
    fun s t hs ht => ?_⟩
  · rw [exec_finish_perform hs h4 h16, effectFinish_eq]
  · exact exec_of_verdict (i := .finish t) (verdictTag_state hs)
  · exact exec_of_verdict (i := .finish t) (verdictTag_param hs ht)

/-- Settles O34: the two refusals of the verdict, and the effect split by the comparison. -/
theorem checkVerifiesTheTag : Obligations.CheckVerifiesTheTag := by
  refine ⟨fun d n hn => decode_encode (i := .check n) hn rfl, fun s t hs h4 h16 hm => ?_,
    fun s t hs h4 h16 hm => ?_, fun s t hs => ?_, fun s t hs ht => ?_⟩
  · rw [exec_check_perform hs h4 h16, effectCheck_of_match hm]
  · rw [exec_check_perform hs h4 h16, effectCheck_of_mismatch hm]
  · exact exec_of_verdict (i := .check t) (verdictTag_state hs)
  · exact exec_of_verdict (i := .check t) (verdictTag_param hs ht)

/-! ### What CHECK shows -/

/-- Whatever the verdict of its checks, CHECK carries the operand into ERR and AUTH_OK only. -/
theorem carryOut_check_of_opnd {v : Verdict} {n : Nat} {r : Block} {s t₁ t₂ : State}
    (h₁ : carryOut v (effectCheck n) s = .next t₁) (h₂ : carryOut v (effectCheck n) { s with opnd := r } = .next t₂) :
    t₂ = { t₁ with opnd := r, err := t₂.err, authOk := t₂.authOk } := by
  cases v <;> obtain rfl := Host.Outcome.next.inj h₁ <;> obtain rfl := Host.Outcome.next.inj h₂ <;> rfl

theorem effectCheck_err (n : Nat) (s : State) : (effectCheck n s).err = .ok ∨ (effectCheck n s).err = .authfail := by
  unfold effectCheck
  split
  · exact .inl rfl
  · exact .inr rfl

/-- Settles O49: the verdict of the checks does not see the operand, and the effect shows it in ERR and AUTH_OK only. -/
theorem checkShowsOnlyTheVerdict : Obligations.CheckShowsOnlyTheVerdict := by
  refine ⟨fun s t₁ t₂ n r h₁ h₂ => carryOut_check_of_opnd (v := verdictTag n s) h₁ h₂, fun s t n hs h4 h16 h => ?_⟩
  obtain rfl := Host.Outcome.next.inj ((exec_check_perform hs h4 h16).symm.trans h)
  exact ⟨rfl, effectCheck_err n s⟩

/-! ### One flipped bit of a tag -/

/-- Bit `k`, counted from the most significant, lies in byte `k / 8`. -/
theorem byteAt_flip_ne (b : Block) {k : Nat} (hk : k < 128) :
    byteAt b (k / 8) ≠ byteAt (b ^^^ ((1 : Block) <<< (127 - k))) (k / 8) := by
  intro h
  have hin : 7 - k % 8 < 8 := by omega
  have hplace : 120 - 8 * (k / 8) + (7 - k % 8) = 127 - k := by omega
  have hp : 127 - k < 128 := by omega
  have hbit := congrArg (BitVec.getLsbD · (7 - k % 8)) h
  simp [byteAt_getLsbD _ _ hin, hplace, hp] at hbit

theorem bytesOf_flip_ne (b : Block) {n k : Nat} (hn : n ≤ 16) (hk : k < 8 * n) :
    bytesOf n b ≠ bytesOf n (b ^^^ ((1 : Block) <<< (127 - k))) := by
  intro h
  exact byteAt_flip_ne b (by omega) (List.map_inj_left.mp h (k / 8) (List.mem_range.mpr (by omega)))

/-- Settles O50: the accepted tag agrees with the session's in the byte that the flipped bit changes. -/
theorem checkComparesEveryByte : Obligations.CheckComparesEveryByte := by
  refine ⟨fun t a b => ?_, fun s t₁ t k h4 h16 ha hk h ht => ?_⟩
  · rw [tagDiff, foldl_diffStep_eq_zero]
    simp
  · obtain hkeep | ⟨n, hn, hv, rfl⟩ := exec_authOk_cases h
    · exact absurd (hkeep.symm.trans ht) (by simp [ha])
    · obtain rfl := Instr.check.inj hn
      obtain ⟨hs, -, -⟩ := verdictTag_perform.mp hv
      have hm : bytesOf t (SessionTag s) = bytesOf t s.opnd :=
        (tagMatches_iff t s).mp (by simpa [effectCheck, ha] using ht)
      have hflip : bytesOf t (SessionTag s) ≠ bytesOf t (s.opnd ^^^ ((1 : Block) <<< (127 - k))) :=
        hm ▸ bytesOf_flip_ne s.opnd h16 hk
      refine ⟨_, exec_check_perform hs h4 h16, ?_⟩
      rw [effectCheck_of_mismatch hflip]
      exact ⟨rfl, ha⟩

end Sys2Proof.Machine
end

section
/-! Proofs about the opening and the end of a host sequence (spec/44_facade.md R280 to R286): `ivstart`, the tag
commands, and what a sequence that succeeds shows of the lengths of its strings. -/

namespace Sys2Proof.Machine

open Sys2Proof

/-! ### Sequences that succeed -/

/-- A sequence that goes on has gone on at its first program. -/
theorem hostThen_eq_next {α β : Type} {p : HostProg α} {f : α → HostProg β} {s : State} {r : β × State}
    (h : hostThen p f s = .next r) : ∃ a t, p s = .next (a, t) ∧ f a t = .next r := by
  unfold hostThen at h
  split at h
  · next a t hp => exact ⟨a, t, hp, h⟩
  · cases h
  · cases h

/-- A program answers once. -/
theorem answer_unique {α : Type} {p : HostProg α} {s t u : State} {a b : α} (h : p s = .next (a, t))
    (h' : p s = .next (b, u)) : a = b ∧ t = u :=
  Prod.mk.inj (Host.Outcome.next.inj (h.symm.trans h'))

/-- Every command answers (60_exceptions.md R302). -/
theorem exec_next (i : Instr) (s : State) : ∃ u, exec i s = .next u := by
  rw [exec_eq_carryOut]
  cases commandVerdict i s <;> exact ⟨_, rfl⟩

/-- A command that leaves ERR = OK was not refused. -/
theorem verdict_of_ok {i : Instr} {s u : State} (h : exec i s = .next u) (hok : u.err = .ok) :
    commandVerdict i s = .noop ∨ commandVerdict i s = .perform := by
  obtain ⟨e, hv, rfl⟩ | ⟨-, rfl⟩ | ⟨hv, -⟩ | ⟨hv, -⟩ := exec_cases h
  · obtain rfl : e = .ok := hok
    simpa using refuse_code hv
  · cases hok
  · exact .inl hv
  · exact .inr hv

/-- A program that reports whether ERR is OK after the command `i` reports so only where `i` was not refused. -/
theorem verdict_of_report {p : HostProg Bool} {i : Instr} {x : Block} {s t : State}
    {left : State → List BusReply → State}
    (hp : ∃ rs, ∀ u, exec i (issued i x rs s) = .next u → ∃ rs', p s = .next (decide (u.err = .ok), left u rs'))
    (h : p s = .next (true, t)) :
    ∃ rs, commandVerdict i (issued i x rs s) = .noop ∨ commandVerdict i (issued i x rs s) = .perform := by
  obtain ⟨rs, hrs⟩ := hp
  obtain ⟨u, hu⟩ := exec_next i (issued i x rs s)
  obtain ⟨rs', hturn⟩ := hrs u hu
  obtain ⟨hok, -⟩ := answer_unique hturn h
  exact ⟨rs, verdict_of_ok hu (of_decide_eq_true hok)⟩

/-- Where a loop's turn decides whether it goes on, a loop that succeeds goes on after it. -/
theorem turn_then_eq_next {α : Type} {p : HostProg Bool} {f : HostProg α} {a b : α} {s t : State}
    (h : hostThen p (fun good => if good then f else hostPure a) s = .next (b, t)) (hne : b ≠ a) :
    ∃ s₁, p s = .next (true, s₁) ∧ f s₁ = .next (b, t) := by
  obtain ⟨good, s₁, hp, hf⟩ := hostThen_eq_next h
  cases good with
  | false => exact absurd (Prod.mk.inj (Host.Outcome.next.inj hf)).1.symm hne
  | true => exact ⟨s₁, hp, hf⟩

/-! ### `ivstart` -/

/-- A chunk of an IV may be fed (42_session.md R201, 41_ghash.md R180). -/
structure IvReady (s : State) : Prop where
  table : s.tv = true
  idle : s.busy = false
  key : s.keyPort = .settled

/-- The accumulator of the IV so far, 0 outside IVLOAD. -/
def ivAcc (s : State) : Block := if s.sess = .ivload then s.acc else 0

theorem beginIv_acc (s : State) : (beginIv s).acc = ivAcc s := by unfold beginIv ivAcc; split <;> rfl

/-- The J0 of an IV whose chunks `cs` are still to come (41_ghash.md R177, R178). -/
def ivCounter (cs : List (List Byte)) (s : State) : Block :=
  if s.sess ≠ .ivload ∧ cs.flatten.length = 12 then fastJ0 (blockOf cs.flatten)
  else fold s.m (foldChunks s.m (ivAcc s) cs) (lengthBlock 0 (ivBase s + cs.flatten.length))

/-- The session that START opens on `j0`. -/
structure OpenedOn (j0 : Block) (s t : State) : Prop where
  fresh : FreshSession t
  m : t.m = s.m
  keyEpoch : t.keyEpoch = s.keyEpoch
  civ : t.civ = j0
  gctr0 : t.gctr0 = Config.cipher s.keyEpoch j0

/-- The state that IVBLK of the chunk `c` leaves. -/
structure IvFolded (c : List Byte) (s t : State) : Prop where
  ready : IvReady t
  sess : t.sess = .ivload
  m : t.m = s.m
  keyEpoch : t.keyEpoch = s.keyEpoch
  acc : t.acc = fold s.m (ivAcc s) (blockOf c)
  ivLen : t.ivLen.toNat = ivBase s + 16

theorem start_wellFormed {n : Nat} (hn : n ≤ 16) (b : Bool) : (Instr.start n).wellFormed b = true :=
  Bool.and_eq_true_iff.mpr ⟨decide_eq_true (hn.trans (by decide)), rfl⟩

/-- J0 of START on the last chunk. -/
theorem startJ0_eq_ivCounter {s : State} (hk : s.keyPort = .settled) {c : List Byte} (h1 : 1 ≤ c.length)
    (h16 : c.length ≤ 16) (hop : s.opnd = blockOf c) : startJ0 c.length s = ivCounter [c] s := by
  have hgeneral (x : Block) (total : Nat) :
      generalJ0 x c.length total s = fold s.m (foldChunks s.m x [c]) (lengthBlock 0 total) := by
    rw [generalJ0_of_pos hk h1, hop, pad_blockOf h1 h16]
    rfl
  rw [ivCounter, List.flatten_singleton]
  by_cases hs : s.sess = .ivload
  · rw [if_neg fun h => h.1 hs, startJ0_of_ivload hs, hgeneral, ivAcc, if_pos hs, ivBase_of_ivload hs]
  · by_cases h12 : c.length = 12
    · rw [if_pos ⟨hs, h12⟩, h12, startJ0_fast hs, hop]
    · rw [if_neg fun h => h12 h.2, startJ0_general hs h12, hgeneral, ivAcc, if_neg hs, ivBase_of_not_ivload hs,
        Nat.zero_add]

/-- With bytes to come, START is performed exactly within LEN_LIMIT. -/
theorem verdictStart_perform_iff_limit {s : State} {n : Nat} (h1 : 1 ≤ n) :
    verdictStart n s = .perform ↔ s.tv = true ∧ n ≤ 16 ∧ ivBase s + n ≤ Config.lenLimit := by
  rw [verdictStart_perform]
  refine and_congr_right fun _ => and_congr_right fun h16 => ?_
  by_cases hs : s.sess = .ivload
  · simp [hs, ivBase_of_ivload hs]
  · have hl : n ≤ Config.lenLimit := h16.trans (by decide)
    simp [hs, ivBase_of_not_ivload hs, hl, Nat.ne_of_gt h1]

/-- The last turn of `ivstart`. -/
theorem turn_start (polls : Nat) {s : State} (hr : IvReady s) {c : List Byte} (h1 : 1 ≤ c.length)
    (h16 : c.length ≤ 16) (hl : ivBase s + c.length ≤ Config.lenLimit) :
    ∃ t, turn polls (.start c.length) (blockOf c) s = .next (true, t) ∧ OpenedOn (ivCounter [c] s) s t := by
  obtain ⟨htv, hb, hk⟩ := hr
  have hv (rs) : verdictStart c.length (issued (.start c.length) (blockOf c) rs s) = .perform :=
    (verdictStart_perform_iff_limit h1).mpr ⟨htv, h16, hl⟩
  have hj (rs) : startJ0 c.length (issued (.start c.length) (blockOf c) rs s) = ivCounter [c] s :=
    startJ0_eq_ivCounter (s := issued (.start c.length) (blockOf c) rs s) hk h1 h16 rfl
  obtain ⟨rs, t, hturn, hpart, -⟩ := turn_succeeds polls (blockOf c) hb (start_wellFormed h16 _)
    (fun rs => exec_start_opens (s := issued (.start c.length) (blockOf c) rs s) hk (hv rs) (hj rs)) (fun _ => rfl)
    (fun _ => hk)
  exact ⟨t, hturn, {
    fresh := {
      started := (congrArg State.sess hpart :)
      idleBus := (congrArg State.busy hpart :)
      key := (congrArg State.keyPort hpart).trans hk
      acc := (congrArg State.acc hpart :)
      lenA := (congrArg State.lenA hpart :)
      lenC := (congrArg State.lenC hpart :)
      blkCnt := (congrArg State.blkCnt hpart :)
      aphc := (congrArg State.aphc hpart :)
      dmode := (congrArg State.dmode hpart :)
      dclosed := (congrArg State.dclosed hpart :) }
    m := (congrArg State.m hpart :)
    keyEpoch := (congrArg State.keyEpoch hpart :)
    civ := (congrArg State.civ hpart :)
    gctr0 := (congrArg State.gctr0 hpart :) }⟩

@[simp] theorem beginIv_keyPort (s : State) : (beginIv s).keyPort = s.keyPort := by unfold beginIv; split <;> rfl
@[simp] theorem beginIv_keyEpoch (s : State) : (beginIv s).keyEpoch = s.keyEpoch := by unfold beginIv; split <;> rfl

/-- A turn of `ivstart` before the last. -/
theorem turn_ivblk (polls : Nat) {s : State} (hr : IvReady s) (c : List Byte)
    (hl : ivBase s + 16 ≤ Config.lenLimit) :
    ∃ t, turn polls .ivblk (blockOf c) s = .next (true, t) ∧ IvFolded c s t := by
  obtain ⟨htv, hb, hk⟩ := hr
  obtain ⟨rs, t, hturn, hpart, -⟩ := turn_succeeds polls (blockOf c) hb rfl
    (fun rs => exec_ivblk_perform (s := issued .ivblk (blockOf c) rs s) htv hl) (fun _ => rfl)
    (fun _ => (beginIv_keyPort _).trans hk)
  have hacc : t.acc = (effectIvblk (issued .ivblk (blockOf c) rs s)).acc := (congrArg State.acc hpart :)
  have hlen : t.ivLen = (effectIvblk (issued .ivblk (blockOf c) rs s)).ivLen := (congrArg State.ivLen hpart :)
  exact ⟨t, hturn, {
    ready := {
      table := (congrArg State.tv hpart).trans ((beginIv_tv _).trans htv)
      idle := (congrArg State.busy hpart :)
      key := (congrArg State.keyPort hpart).trans ((beginIv_keyPort _).trans hk) }
    sess := (congrArg State.sess hpart :)
    m := (congrArg State.m hpart).trans (beginIv_m _)
    keyEpoch := (congrArg State.keyEpoch hpart).trans (beginIv_keyEpoch _)
    acc := by
      rw [hacc, effectIvblk_acc, foldNow_settled (s := issued .ivblk (blockOf c) rs s) _ _ hk, beginIv_acc]
      rfl
    ivLen := (congrArg BitVec.toNat hlen).trans (effectIvblk_ivLen_toNat (s := issued .ivblk (blockOf c) rs s) hl) }⟩

/-- The bytes of an IV are counted along its chunks. -/
theorem IvFolded.ivBase_eq {c : List Byte} {s t : State} (h : IvFolded c s t) :
    ivBase t = ivBase s + 16 := by
  rw [ivBase_of_ivload h.sess, h.ivLen]

/-- J0 after a block of the IV is that of the whole IV. -/
theorem IvFolded.ivCounter_eq {c : List Byte} {s t : State} (h : IvFolded c s t) (h16 : c.length = 16)
    {cs : List (List Byte)} : ivCounter cs t = ivCounter (c :: cs) s := by
  have hlong : (c :: cs).flatten.length = 16 + cs.flatten.length := by
    rw [List.flatten_cons, List.length_append, h16]
  have h12 : (c :: cs).flatten.length ≠ 12 := by omega
  rw [ivCounter, ivCounter, if_neg fun hc => hc.1 h.sess, if_neg fun hc => h12 hc.2, h.ivBase_eq,
    h.m, ivAcc, if_pos h.sess, h.acc, hlong, Nat.add_assoc]
  rfl

/-- The loop of `ivstart`, turn by turn. -/
theorem ivFeed_cons_cons (polls : Nat) (c d : List Byte) (cs : List (List Byte)) :
    ivFeed polls (c :: d :: cs) = hostThen (turn polls .ivblk (blockOf c)) fun good =>
      if good then ivFeed polls (d :: cs) else hostPure false := by
  simp only [turn, hostThen_assoc]
  rfl

/-- An IV within LEN_LIMIT opens the session of its J0. -/
theorem ivFeed_next (polls : Nat) {c : List Byte} {cs : List (List Byte)} (hch : Chunked (c :: cs)) {s : State}
    (hr : IvReady s) (hl : ivBase s + (c :: cs).flatten.length ≤ Config.lenLimit) :
    ∃ t, ivFeed polls (c :: cs) s = .next (true, t) ∧ OpenedOn (ivCounter (c :: cs) s) s t := by
  obtain ⟨h1, h16, hfull, hcs⟩ := hch
  induction cs generalizing c s with
  | nil => exact turn_start polls hr h1 h16 (by rwa [List.flatten_singleton] at hl)
  | cons d ds ih =>
    have h16 := hfull (List.cons_ne_nil d ds)
    rw [List.flatten_cons, List.length_append, h16, ← Nat.add_assoc] at hl
    obtain ⟨t, hturn, hfold⟩ := turn_ivblk polls hr c (by omega)
    obtain ⟨h1', h16', hfull', hds⟩ := hcs
    obtain ⟨u, hfeed, hopen⟩ := ih hfold.ready (hfold.ivBase_eq ▸ hl) h1' h16' hfull' hds
    rw [hfold.ivCounter_eq h16] at hopen
    refine ⟨u, ?_, {
      fresh := hopen.fresh
      m := hopen.m.trans hfold.m
      keyEpoch := hopen.keyEpoch.trans hfold.keyEpoch
      civ := hopen.civ
      gctr0 := hfold.keyEpoch ▸ hopen.gctr0 }⟩
    rw [ivFeed_cons_cons, hostThen_of_next hturn, if_pos rfl, hfeed]

/-- An IV that opens a session is within LEN_LIMIT. -/
theorem ivFeed_limit (polls : Nat) {c : List Byte} {cs : List (List Byte)} (hch : Chunked (c :: cs)) {s t : State}
    (hr : IvReady s) (h : ivFeed polls (c :: cs) s = .next (true, t)) :
    ivBase s + (c :: cs).flatten.length ≤ Config.lenLimit := by
  obtain ⟨h1, h16, hfull, hcs⟩ := hch
  induction cs generalizing c s with
  | nil =>
    obtain ⟨rs, hv⟩ := verdict_of_report (turn_next polls (blockOf c) hr.idle (start_wellFormed h16 _)) h
    obtain ⟨-, -, hl⟩ := (verdictStart_perform_iff_limit h1).mp (hv.resolve_left (verdictStart_ne_noop _ _))
    rw [List.flatten_singleton]
    exact hl
  | cons d ds ih =>
    rw [ivFeed_cons_cons] at h
    obtain ⟨s₁, hturn, hrest⟩ := turn_then_eq_next h nofun
    obtain ⟨rs, hv⟩ := verdict_of_report (turn_next polls (blockOf c) hr.idle rfl) hturn
    obtain ⟨-, hl⟩ := verdictIvblk_perform.mp (hv.resolve_left (verdictIvblk_ne_noop _))
    obtain ⟨t₁, hturn', hfold⟩ := turn_ivblk polls hr c hl
    obtain ⟨-, rfl⟩ := answer_unique hturn hturn'
    obtain ⟨h1', h16', hfull', hds⟩ := hcs
    have := ih hfold.ready hrest h1' h16' hfull' hds
    rw [hfold.ivBase_eq] at this
    rw [List.flatten_cons, List.length_append, hfull (List.cons_ne_nil d ds)]
    omega

theorem ReadyForMessage.ivReady {s : State} (hr : ReadyForMessage s) : IvReady s := ⟨hr.table, hr.idleBus, hr.key⟩

/-- From a ready state J0 is that of the IV (41_ghash.md R177, R178). -/
theorem ivCounter_chunks {s : State} (hs : s.sess ≠ .ivload) (iv : List Byte) :
    ivCounter (chunks iv) s = initialCounter s.m iv := by
  rw [ivCounter, initialCounter, flatten_chunks, ivAcc, if_neg hs, ivBase_of_not_ivload hs, Nat.zero_add]
  by_cases h12 : iv.length = 12
  · rw [if_pos ⟨hs, h12⟩, if_pos h12]
  · rw [if_neg fun h => h12 h.2, if_neg h12]
    rfl

/-- `ivstart` opens the session of the IV's J0. -/
theorem ivstart_next (polls : Nat) {s : State} (hr : ReadyForMessage s) {iv : List Byte} (h1 : 1 ≤ iv.length)
    (hl : iv.length ≤ Config.lenLimit) :
    ∃ t, ivstart polls iv s = .next (true, t) ∧ OpenedOn (initialCounter s.m iv) s t := by
  rw [← ivCounter_chunks hr.noIv, ivstart]
  have hflat := flatten_chunks iv
  have hch := chunked_chunks iv
  cases hcs : chunks iv with
  | nil =>
    rw [← hflat, hcs] at h1
    cases h1
  | cons c cs =>
    rw [hcs] at hflat hch
    refine ivFeed_next polls hch hr.ivReady ?_
    rwa [hflat, ivBase_of_not_ivload hr.noIv, Nat.zero_add]

/-- An IV that opens a session has a length that R287 allows. -/
theorem ivstart_limit (polls : Nat) {s t : State} (hr : ReadyForMessage s) {iv : List Byte}
    (h : ivstart polls iv s = .next (true, t)) : 1 ≤ iv.length ∧ iv.length ≤ Config.lenLimit := by
  rw [ivstart] at h
  have hflat := flatten_chunks iv
  have hch := chunked_chunks iv
  cases hcs : chunks iv with
  | nil =>
    rw [hcs] at h
    cases h
  | cons c cs =>
    rw [hcs] at h hflat hch
    have hl := ivFeed_limit polls hch hr.ivReady h
    rw [hflat, ivBase_of_not_ivload hr.noIv, Nat.zero_add] at hl
    refine ⟨?_, hl⟩
    have ⟨h1, _⟩ := hch
    rw [← hflat, List.flatten_cons, List.length_append]
    omega

/-! ### Streams that succeed -/

theorem verdictAad_noop_zero {n : Nat} {s : State} (h : verdictAad n s = .noop) : n = 0 := by
  unfold verdictAad at h; split_ifs at h; assumption

/-- A turn of AAD that succeeds was within LEN_LIMIT. -/
theorem aadReady_of_turn (polls : Nat) {c : List Byte} (h1 : 1 ≤ c.length) (h16 : c.length ≤ 16) {s t : State}
    (hr : AadReady 0 s) (h : turn polls (.aad c.length) (blockOf c) s = .next (true, t)) :
    AadReady c.length s ∧ AadFed [c] s t ∧ (c.length = 16 → AadReady 0 t) := by
  have hwf : (Instr.aad c.length).wellFormed s.debugMulh = true :=
    Bool.and_eq_true_iff.mpr ⟨decide_eq_true (h16.trans (by decide)), rfl⟩
  obtain ⟨rs, hv⟩ := verdict_of_report (turn_next polls (blockOf c) hr.idle hwf) h
  obtain ⟨-, -, -, -, -, hl⟩ := verdictAad_perform.mp
    (hv.resolve_left fun hv => absurd (verdictAad_noop_zero hv) (Nat.ne_of_gt h1))
  have hready : AadReady (c.length + 0) s := { hr with limit := hl }
  obtain ⟨t', hturn, hfed, hnext⟩ := turn_aad polls h1 h16 hready
  obtain ⟨-, rfl⟩ := answer_unique h hturn
  exact ⟨hready, hfed, hnext⟩

/-- What may follow a chunk of AAD might have followed before it, with the chunk. -/
theorem AadFed.ready_before {n : Nat} {c : List Byte} {s t : State} (hfed : AadFed [c] s t)
    (hs : AadReady c.length s) (ht : AadReady n t) : AadReady (c.length + n) s := by
  have hlen : t.lenA = s.lenA + BitVec.ofNat 64 [c].flatten.length := (congrArg State.lenA hfed.part :)
  have hl := hs.limit
  have hrest := ht.limit
  simp only [Config.lenLimit] at hl
  rw [hlen, List.flatten_singleton, toNat_add_len (by omega), Nat.add_assoc] at hrest
  exact { hs with limit := hrest }

/-- A stream of AAD that is fed is within LEN_LIMIT. -/
theorem aadReady_of_feed (polls : Nat) {cs : List (List Byte)} (hch : Chunked cs) {s t : State}
    (hr : cs ≠ [] → AadReady 0 s) (h : feed polls .aad cs s = .next (true, t)) (hne : cs ≠ []) :
    AadReady cs.flatten.length s := by
  induction cs generalizing s with
  | nil => exact absurd rfl hne
  | cons c cs ih =>
    obtain ⟨h1, h16, hfull, hcs⟩ := hch
    rw [feed_cons] at h
    obtain ⟨s₁, hturn, hrest⟩ := turn_then_eq_next h nofun
    obtain ⟨hready, hfed, hnext⟩ := aadReady_of_turn polls h1 h16 (hr hne) hturn
    by_cases hnil : cs = []
    · subst hnil
      rwa [List.flatten_singleton]
    · rw [List.flatten_cons, List.length_append]
      exact hfed.ready_before hready (ih hcs (fun _ => hnext (hfull hnil)) hrest hnil)

/-- The AAD that a fresh session takes is within LEN_LIMIT. -/
theorem aad_length_of_feed (polls : Nat) {a : List Byte} {s t : State} (hf : FreshSession s)
    (h : feed polls .aad (chunks a) s = .next (true, t)) : a.length ≤ Config.lenLimit := by
  by_cases hnil : chunks a = []
  · rw [← flatten_chunks a, hnil]
    exact Nat.zero_le _
  · have hlim := (aadReady_of_feed polls (chunked_chunks a)
      (fun _ => aadReady_of_freshSession hf (Nat.zero_le _)) h hnil).limit
    rw [flatten_chunks] at hlim
    exact (Nat.le_add_left _ _).trans hlim

/-- A turn of data that succeeds was within BLK_LIMIT. -/
theorem dataReady_of_turn (polls : Nat) {mk : Nat → Instr} {d : DMode} (hc : DataCommand mk d) {c : List Byte}
    (h1 : 1 ≤ c.length) (h16 : c.length ≤ 16) {s t : State} (hr : DataReady d 0 s)
    (h : turn polls (mk c.length) (blockOf c) s = .next (true, t)) :
    DataReady d 1 s ∧ t.blkCnt = s.blkCnt + 1 ∧ (c.length = 16 → DataReady d 0 t) := by
  obtain ⟨rs, hv⟩ := verdict_of_report (turn_next polls (blockOf c) hr.idle (hc.wellFormed h16 _)) h
  rw [hc.verdict] at hv
  obtain ⟨-, -, -, -, -, hl⟩ := verdictData_perform.mp
    (hv.resolve_left fun hv => absurd (verdictData_noop hv) (Nat.ne_of_gt h1))
  have hready : DataReady d (0 + 1) s := { hr with limit := hl }
  obtain ⟨t', hturn, hfed, hnext, -⟩ := turn_data polls hc h1 h16 hready
  obtain ⟨-, rfl⟩ := answer_unique h hturn
  exact ⟨hready, (congrArg State.blkCnt hfed.part :), hnext⟩

/-- A turn of a stream that succeeds, and the rest of the stream after its output is read. -/
theorem feedOut_cons_some {polls : Nat} {mk : Nat → Instr} {c : List Byte} {cs : List (List Byte)} {s t : State}
    {y : List Byte} (h : feedOut polls mk (c :: cs) s = .next (some y, t)) :
    ∃ s₁ rs z, turn polls (mk c.length) (blockOf c) s = .next (true, s₁) ∧
      feedOut polls mk cs { s₁ with replies := rs } = .next (some z, t) := by
  rw [feedOut_cons] at h
  obtain ⟨s₁, hturn, h⟩ := turn_then_eq_next h nofun
  obtain ⟨rs, hdout⟩ := dout_next s₁
  rw [hostThen_of_next hdout] at h
  obtain ⟨out, s₂, hfeed, h⟩ := hostThen_eq_next h
  obtain ⟨hout, rfl⟩ := Prod.mk.inj (Host.Outcome.next.inj h)
  obtain ⟨z, rfl, -⟩ := Option.map_eq_some_iff.mp hout
  exact ⟨s₁, rs, z, hturn, hfeed⟩

/-- A stream of ENC or DEC that succeeds is within BLK_LIMIT. -/
theorem dataReady_of_feedOut (polls : Nat) {mk : Nat → Instr} {d : DMode} (hc : DataCommand mk d)
    {cs : List (List Byte)} (hch : Chunked cs) {s t : State} {y : List Byte} (hr : cs ≠ [] → DataReady d 0 s)
    (h : feedOut polls mk cs s = .next (some y, t)) (hne : cs ≠ []) : DataReady d cs.length s := by
  induction cs generalizing s y with
  | nil => exact absurd rfl hne
  | cons c cs ih =>
    obtain ⟨h1, h16, hfull, hcs⟩ := hch
    obtain ⟨s₁, rs, z, hturn, hrest⟩ := feedOut_cons_some h
    obtain ⟨hready, hblk, hnext⟩ := dataReady_of_turn polls hc h1 h16 (hr hne) hturn
    by_cases hnil : cs = []
    · subst hnil
      exact hready
    · have hlim : s₁.blkCnt.toNat + cs.length ≤ Config.blkLimit :=
        (ih (s := { s₁ with replies := rs }) hcs (fun _ => { hnext (hfull hnil) with }) hrest hnil).limit
      rw [hblk, toNat_add_blk hready.limit, Nat.add_assoc, Nat.add_comm 1] at hlim
      exact { hready with limit := hlim }

/-! ### A command without a new operand -/

/-- `cmd i`, and whether ERR is then OK. -/
def cmdOk (polls : Nat) (i : Instr) : HostProg Bool :=
  hostThen (cmd polls i) fun _ => errOk

/-- `cmd i` from an idle block: the command is carried out on DIN. -/
theorem cmd_next (polls : Nat) {i : Instr} {s : State} (hb : s.busy = false)
    (hwf : i.wellFormed s.debugMulh = true) :
    ∃ rs, ∀ u, exec i (issued i s.din rs s) = .next u →
      ∃ v rs', cmd polls i s = .next (v, { retire u with replies := rs' }) := by
  have hwr : wr 0x00 (encode i) s = .next ((), issued i s.din (⟨0, false⟩ :: s.replies) s) := by
    show Host.Outcome.next ((), reply ⟨0, false⟩ (writeCmd (encode i) s)) = _
    rw [writeCmd, hb]
    rfl
  obtain ⟨rs, hrs⟩ := wait_next (i := i) polls (s := issued i s.din (⟨0, false⟩ :: s.replies) s) rfl
    (decodeOfEncodeIsTheCommand _ i hwf)
  refine ⟨rs, fun u hu => ?_⟩
  obtain ⟨v, rs', hwait⟩ := hrs u hu
  exact ⟨v, rs', by rw [cmd, hostThen_of_next hwr, hwait]⟩

theorem cmdOk_next (polls : Nat) {i : Instr} {s : State} (hb : s.busy = false)
    (hwf : i.wellFormed s.debugMulh = true) :
    ∃ rs, ∀ u, exec i (issued i s.din rs s) = .next u →
      ∃ rs', cmdOk polls i s = .next (decide (u.err = .ok), { retire u with replies := rs' }) := by
  obtain ⟨rs, hrs⟩ := cmd_next polls hb hwf
  refine ⟨rs, fun u hu => ?_⟩
  obtain ⟨v, rs', hcmd⟩ := hrs u hu
  obtain ⟨rs'', herr⟩ := errOk_next { retire u with replies := rs' }
  exact ⟨rs'', by rw [cmdOk, hostThen_of_next hcmd, herr]; rfl⟩

/-! ### The end of a session -/

/-- A session is open and no command is in flight, under a settled key. -/
structure SessionOpen (s : State) : Prop where
  idle : s.busy = false
  key : s.keyPort = .settled
  started : s.sess = .started

/-- `cmd FINISH t` and the return of the tag with the output `y` (44_facade.md R280). -/
def finishTag (polls : Nat) (t : Nat) (y : List Byte) : HostProg (Option (List Byte × List Byte)) :=
  hostThen (cmd polls (.finish t)) fun _ =>
  hostThen errOk fun good =>
  if good then hostThen dout fun tag => hostPure (some (y, bytesOf t tag)) else hostPure none

theorem finishTag_eq (polls : Nat) (t : Nat) (y : List Byte) : finishTag polls t y =
    hostThen (cmdOk polls (.finish t)) fun good =>
      if good then hostThen dout fun tag => hostPure (some (y, bytesOf t tag)) else hostPure none :=
  (hostThen_assoc _ _ _).symm

theorem finish_wellFormed {t : Nat} (ht : t ≤ 31) (b : Bool) : (Instr.finish t).wellFormed b = true :=
  Bool.and_eq_true_iff.mpr ⟨decide_eq_true ht, rfl⟩

theorem check_wellFormed {t : Nat} (ht : t ≤ 31) (b : Bool) : (Instr.check t).wellFormed b = true :=
  Bool.and_eq_true_iff.mpr ⟨decide_eq_true ht, rfl⟩

/-- `cmd FINISH t` in an open session. -/
theorem cmdOk_finish (polls : Nat) {s : State} (hs : SessionOpen s) {t : Nat} (h4 : 4 ≤ t) (h16 : t ≤ 16) :
    ∃ s', cmdOk polls (.finish t) s = .next (true, s') ∧ s'.dout = pad (SessionTag s) t := by
  obtain ⟨rs, hrs⟩ := cmdOk_next polls hs.idle (finish_wellFormed (h16.trans (by decide)) s.debugMulh)
  obtain ⟨rs', hcmd⟩ := hrs _ (exec_finish_perform (s := issued (.finish t) s.din rs s) hs.started h4 h16)
  exact ⟨_, hcmd, congrArg State.dout (effectFinish_eq t (issued (.finish t) s.din rs s))⟩

/-- FINISH returns the first `t` bytes of the session's tag (43_tag.md R251, R255). -/
theorem finishTag_next (polls : Nat) {s : State} (hs : SessionOpen s) {t : Nat} (h4 : 4 ≤ t) (h16 : t ≤ 16)
    (y : List Byte) : ∃ s', finishTag polls t y s = .next (some (y, bytesOf t (SessionTag s)), s') := by
  obtain ⟨s₁, hcmd, htag⟩ := cmdOk_finish polls hs h4 h16
  obtain ⟨rs, hdout⟩ := dout_next s₁
  refine ⟨{ s₁ with replies := rs }, ?_⟩
  rw [finishTag_eq, hostThen_of_next hcmd, if_pos rfl, hostThen_of_next hdout, htag, bytesOf_pad _ (by omega) h16]
  rfl

/-- FINISH that succeeds has a tag length that R255 allows. -/
theorem finishTag_length (polls : Nat) {s s' : State} (hs : SessionOpen s) {t : Nat} (h31 : t ≤ 31)
    {y : List Byte} {r : List Byte × List Byte} (h : finishTag polls t y s = .next (some r, s')) :
    4 ≤ t ∧ t ≤ 16 := by
  rw [finishTag_eq] at h
  obtain ⟨s₁, hcmd, -⟩ := turn_then_eq_next h nofun
  obtain ⟨rs, hv⟩ := verdict_of_report (cmdOk_next polls hs.idle (finish_wellFormed h31 _)) hcmd
  exact (verdictTag_perform.mp (hv.resolve_left (verdictTag_ne_noop _ _))).2

/-- AUTH_OK is bit 8 of STATUS (10_state.md R54). -/
theorem statusWord_authOk (s : State) : (statusWord s).getLsbD 8 = s.authOk := by
  have hbusy := s.busy.toNat_le
  have hsess := s.sess.code.isLt
  have htv := s.tv.toNat_le
  have herr := s.err.code.isLt
  have hbit : (statusWord s).toNat / 2 ^ 8 % 2 = s.authOk.toNat := by
    have hauth := s.authOk.toNat_le
    rw [statusWord_toNat]
    omega
  rw [BitVec.getLsbD, Nat.testBit_eq_decide_div_mod_eq, hbit]
  cases s.authOk <;> rfl

/-- `cmd CHECK t` in an open session, with the right tag in DIN. -/
theorem cmd_check_accepts (polls : Nat) {s : State} (hs : SessionOpen s) {t : Nat} (h4 : 4 ≤ t) (h16 : t ≤ 16)
    (hm : bytesOf t (SessionTag s) = bytesOf t s.din) :
    ∃ v s', cmd polls (.check t) s = .next (v, s') ∧ s'.err = .ok ∧ s'.authOk = true := by
  obtain ⟨rs, hrs⟩ := cmd_next polls hs.idle (check_wellFormed (h16.trans (by decide)) s.debugMulh)
  obtain ⟨v, rs', hcmd⟩ := hrs _ (exec_check_perform (s := issued (.check t) s.din rs s) hs.started h4 h16)
  have heffect := effectCheck_of_match (s := issued (.check t) s.din rs s) hm
  exact ⟨v, _, hcmd, congrArg State.err heffect, congrArg State.authOk heffect⟩

/-- CHECK accepts the first `t` bytes of the session's tag (43_tag.md R252). -/
theorem checkVerdict_accepts (polls : Nat) {s : State} (hs : SessionOpen s) {t : Nat} (h4 : 4 ≤ t) (h16 : t ≤ 16)
    {tag : List Byte} (htag : tag = bytesOf t (SessionTag s)) :
    ∃ s', checkVerdict polls tag t s = .next (true, s') := by
  obtain ⟨r, hdin⟩ := din_next s (blockOf tag)
  have hmatch : bytesOf t (SessionTag s) = bytesOf t (blockOf tag) := by
    rw [htag, blockOf_bytesOf _ (by omega) h16, bytesOf_pad _ (by omega) h16]
  obtain ⟨v, s₁, hcmd, herr, hauth⟩ := cmd_check_accepts polls
    (s := { s with din := blockOf tag, replies := r }) { hs with } h4 h16 hmatch
  refine ⟨reply ⟨statusWord s₁, false⟩ s₁, ?_⟩
  rw [checkVerdict, hostThen_of_next hdin, hostThen_of_next hcmd, hostThen_of_next (rd_status s₁), statusWord_err,
    statusWord_authOk, herr, hauth]
  rfl

end Sys2Proof.Machine
end

section
/-! Proofs about whole messages (spec/43_tag.md R258, 44_facade.md R280 to R287): the output and the tag of a sequence
whose lengths are allowed, and the round trip. -/

namespace Sys2Proof.Machine

open Sys2Proof

/-! ### Keystream twice -/

theorem pad_pad (b : Block) (n : Nat) : pad (pad b n) n = pad b n := by
  refine BitVec.eq_of_getLsbD_eq fun p hp => ?_
  rw [pad_getLsbD _ _ hp, pad_getLsbD _ _ hp, ← Bool.and_assoc, Bool.and_self]

/-- A chunk is the first bytes of its block (44_facade.md R280). -/
theorem bytesOf_blockOf {c : List Byte} (h16 : c.length ≤ 16) : bytesOf c.length (blockOf c) = c := by
  refine List.ext_getElem (bytesOf_length _ _) fun j hj hjc => ?_
  simp only [bytesOf, List.getElem_map, List.getElem_range]
  rw [byteAt_blockOf c (by omega), List.getD_eq_getElem c 0 hjc]

/-- A chunk XORed with the same keystream twice is the chunk. -/
theorem ctrChunk_ctrChunk (cipher : Block → Block) (civ : Block) {c : List Byte} (h1 : 1 ≤ c.length)
    (h16 : c.length ≤ 16) : ctrChunk cipher civ (ctrChunk cipher civ c) = c := by
  have hblock : blockOf (ctrChunk cipher civ c) = blockOf c ^^^ pad (cipher (inc32 civ)) c.length := by
    rw [ctrChunk, blockOf_bytesOf _ h1 h16, pad_xor, pad_blockOf h1 h16]
  have hlen : (ctrChunk cipher civ c).length = c.length := bytesOf_length _ _
  rw [ctrChunk, hlen, hblock, ← bytesOf_pad _ h1 h16, pad_xor, pad_xor, BitVec.xor_assoc, pad_pad,
    BitVec.xor_self, BitVec.xor_zero, bytesOf_pad _ h1 h16, bytesOf_blockOf h16]

/-- The CTR stream of the ciphertext chunks is the plaintext (42_session.md R212). -/
theorem ctrStream_cipherChunks (cipher : Block → Block) (civ : Block) {cs : List (List Byte)} (h : Chunked cs) :
    ctrStream cipher civ (cipherChunks .enc cipher civ cs) = cs.flatten := by
  induction cs generalizing civ with
  | nil => rfl
  | cons c cs ih =>
    obtain ⟨h1, h16, -, hcs⟩ := h
    rw [List.flatten_cons, ← ih (inc32 civ) hcs]
    exact congrArg (· ++ _) (ctrChunk_ctrChunk cipher civ h1 h16)

/-- The chunks of the CTR stream are the ciphertext chunks. -/
theorem chunks_ctrStream (cipher : Block → Block) (civ : Block) {cs : List (List Byte)} (h : Chunked cs) :
    chunks (ctrStream cipher civ cs) = cipherChunks .enc cipher civ cs := by
  rw [← flatten_cipherChunks_enc, chunks_flatten (chunked_cipherChunks .enc cipher civ h)]

theorem gcmStream_gcmStream (cipher : Block → Block) (m : Table) (iv p : List Byte) :
    gcmStream cipher m iv (gcmStream cipher m iv p) = p := by
  have hch := chunked_chunks p
  rw [gcmStream, gcmStream, chunks_ctrStream _ _ hch, ctrStream_cipherChunks _ _ hch, flatten_chunks]

theorem gcmStream_length (cipher : Block → Block) (m : Table) (iv p : List Byte) :
    (gcmStream cipher m iv p).length = p.length := by
  rw [gcmStream, ctrStream_length, flatten_chunks]

theorem gcmTag_length (cipher : Block → Block) (m : Table) (iv a c : List Byte) (t : Nat) :
    (gcmTag cipher m iv a c t).length = t := bytesOf_length _ _

/-- The ciphertext chunks of a stream of ENC or DEC are the chunks of its ciphertext. -/
theorem cipherChunks_chunks {mk : Nat → Instr} {d : DMode} (hc : DataCommand mk d) (hd : d ≠ .hash)
    (cipher : Block → Block) (civ : Block) (x : List Byte) :
    cipherChunks d cipher civ (chunks x) = chunks (ciphertextOf d x (ctrStream cipher civ (chunks x))) := by
  cases hc with
  | enc => exact (chunks_ctrStream cipher civ (chunked_chunks x)).symm
  | dec => exact cipherChunks_dec cipher civ
  | ghashc => exact absurd rfl hd

/-! ### Lengths -/

/-- The lengths that 44_facade.md R287 allows. -/
structure MessageLimits (iv a x : List Byte) (t : Nat) : Prop where
  ivPos : 1 ≤ iv.length
  iv : iv.length ≤ Config.lenLimit
  aad : a.length ≤ Config.lenLimit
  data : x.length ≤ 16 * Config.blkLimit
  tagLow : 4 ≤ t
  tagHigh : t ≤ 16

theorem MessageLimits.of_length_eq {iv a x y : List Byte} {t : Nat} (h : MessageLimits iv a x t)
    (hy : y.length = x.length) : MessageLimits iv a y t :=
  { h with data := hy.trans_le h.data }

/-- A string has at most 16 bytes for each of its chunks. -/
theorem chunked_flatten_length_le {cs : List (List Byte)} (hch : Chunked cs) :
    cs.flatten.length ≤ 16 * cs.length := by
  induction cs with
  | nil => exact Nat.zero_le _
  | cons c cs ih =>
    obtain ⟨-, h16, -, hcs⟩ := hch
    have := ih hcs
    rw [List.flatten_cons, List.length_append, List.length_cons]
    omega

/-- Data that may be fed whole are within the limit of R287. -/
theorem data_length_of_ready {d : DMode} {x : List Byte} {s : State}
    (hr : chunks x ≠ [] → DataReady d (chunks x).length s) : x.length ≤ 16 * Config.blkLimit := by
  have hbytes := chunked_flatten_length_le (chunked_chunks x)
  rw [flatten_chunks] at hbytes
  by_cases hnil : chunks x = []
  · rw [hnil] at hbytes
    exact hbytes.trans (Nat.zero_le _)
  · have hlim := (hr hnil).limit
    omega

/-! ### The session of a message -/

/-- From `s` a session was opened on `iv` and fed `a`. -/
def Begun (iv a : List Byte) (s t : State) : Prop :=
  ∃ s₀, OpenedOn (initialCounter s.m iv) s s₀ ∧ AadFed (chunks a) s₀ t

namespace Begun

variable {iv a : List Byte} {s t : State}

theorem keyEpoch (h : Begun iv a s t) : t.keyEpoch = s.keyEpoch := by
  obtain ⟨s₀, hopen, haad⟩ := h
  exact (congrArg State.keyEpoch haad.part :).trans hopen.keyEpoch

theorem civ (h : Begun iv a s t) : t.civ = initialCounter s.m iv := by
  obtain ⟨s₀, hopen, haad⟩ := h
  exact (congrArg State.civ haad.part :).trans hopen.civ

/-- Within the block limit data of any mode may follow. -/
theorem dataReady (h : Begun iv a s t) {x : List Byte} (hx : x.length ≤ 16 * Config.blkLimit) (d : DMode) :
    DataReady d (chunks x).length t := by
  obtain ⟨s₀, hopen, haad⟩ := h
  exact dataReady_after_aad hopen.fresh haad hx d

/-- Data leave the session open. -/
theorem sessionOpen {u : State} (h : Begun iv a s t) {cs : List (List Byte)} (hdata : DataFed cs t u) :
    SessionOpen u := by
  obtain ⟨hb, hk, ⟨hs, -, -⟩, -⟩ := h.dataReady (x := []) (Nat.zero_le _) .hash
  exact {
    idle := (congrArg State.busy hdata.part).trans hb
    key := (congrArg State.keyPort hdata.part).trans hk
    started := (congrArg State.sess hdata.part).trans hs }

/-- The tag of the session after the ciphertext `c` (43_tag.md R250). -/
theorem sessionTag {u : State} (h : Begun iv a s t) (ha : a.length ≤ Config.lenLimit) {c : List Byte}
    (hc : c.length ≤ 16 * Config.blkLimit) (hdata : DataFed (chunks c) t u) :
    SessionTag u = ghash s.m a c ^^^ Config.cipher s.keyEpoch (initialCounter s.m iv) := by
  have hkey := (h.sessionOpen hdata).key
  obtain ⟨s₀, hopen, haad⟩ := h
  obtain ⟨hacc, hlenA, hlenC⟩ := accumulates_of_fed hopen.fresh ha hc haad hdata
  have hm₁ : t.m = s₀.m := (congrArg State.m haad.part :)
  have hm : u.m = t.m := (congrArg State.m hdata.part :)
  have hg₁ : t.gctr0 = s₀.gctr0 := (congrArg State.gctr0 haad.part :)
  have hg : u.gctr0 = t.gctr0 := (congrArg State.gctr0 hdata.part :)
  rw [SessionTag, SessionHash, if_pos hkey, hacc, hlenA, hlenC, hm, hm₁, hopen.m, hg, hg₁, hopen.gctr0]
  rfl

end Begun

/-- `ivstart` and the AAD, then `rest`; `fail` where one of them fails (44_facade.md R280 to R282). -/
def begunThen {α : Type} (polls : Nat) (iv a : List Byte) (fail : α) (rest : HostProg α) : HostProg α :=
  hostThen (ivstart polls iv) fun opened =>
  if !opened then hostPure fail
  else
    hostThen (feed polls .aad (chunks a)) fun aadGood =>
    if !aadGood then hostPure fail else rest

/-- Within the limits a session begins, and the rest follows. -/
theorem begunThen_next (polls : Nat) {s : State} (hr : ReadyForMessage s) {iv a : List Byte} (h1 : 1 ≤ iv.length)
    (hiv : iv.length ≤ Config.lenLimit) (ha : a.length ≤ Config.lenLimit) :
    ∃ t, Begun iv a s t ∧
      ∀ {α : Type} (fail : α) (rest : HostProg α), begunThen polls iv a fail rest s = rest t := by
  obtain ⟨s₀, hstart, hopen⟩ := ivstart_next polls hr h1 hiv
  obtain ⟨t, hfeed, haad⟩ := feed_aad polls (chunked_chunks a) (s := s₀) fun _ => by
    rw [flatten_chunks]
    exact aadReady_of_freshSession hopen.fresh ha
  exact ⟨t, ⟨s₀, hopen, haad⟩, fun fail rest => (hostThen_of_next hstart).trans (hostThen_of_next hfeed)⟩

/-- A sequence that does not fail has begun a session, within the limits. -/
theorem begun_of_begunThen {α : Type} (polls : Nat) {s t : State} (hr : ReadyForMessage s) {iv a : List Byte}
    {fail b : α} {rest : HostProg α} (h : begunThen polls iv a fail rest s = .next (b, t)) (hne : b ≠ fail) :
    (1 ≤ iv.length ∧ iv.length ≤ Config.lenLimit ∧ a.length ≤ Config.lenLimit) ∧
      ∃ s₁, Begun iv a s s₁ ∧ rest s₁ = .next (b, t) := by
  have hfail {x : State} : hostPure fail x ≠ .next (b, t) := fun hx =>
    hne (Prod.mk.inj (Host.Outcome.next.inj hx)).1.symm
  obtain ⟨opened, s₀, hstart, hfed⟩ := hostThen_eq_next h
  cases opened with
  | false => exact absurd hfed hfail
  | true =>
    obtain ⟨h1, hiv⟩ := ivstart_limit polls hr hstart
    obtain ⟨s₀', hstart', hopen⟩ := ivstart_next polls hr h1 hiv
    obtain ⟨-, rfl⟩ := answer_unique hstart hstart'
    obtain ⟨aadGood, s₁, hfeed, hrest⟩ := hostThen_eq_next hfed
    cases aadGood with
    | false => exact absurd hrest hfail
    | true =>
      have ha := aad_length_of_feed polls hopen.fresh hfeed
      obtain ⟨u, hbegun, heq⟩ := begunThen_next polls hr h1 hiv ha
      exact ⟨⟨h1, hiv, ha⟩, u, hbegun, (heq fail rest).symm.trans h⟩

/-! ### `gcm_encrypt`, `gcm_decrypt` and `gcm_check` -/

theorem gcmCrypt_eq_begunThen (polls : Nat) (mk : Nat → Instr) (iv a x : List Byte) {t : Nat} (ht : t ≤ 31) :
    gcmCrypt polls mk iv a x t = begunThen polls iv a none
      (hostThen (feedOut polls mk (chunks x)) fun out =>
        match out with
        | none => hostPure none
        | some y => finishTag polls t y) :=
  if_neg (Nat.not_lt.mpr ht)

theorem gcmCheck_eq_begunThen (polls : Nat) (iv a c : List Byte) {tag : List Byte} {t : Nat} (hlen : tag.length = t)
    (ht : t ≤ 31) : gcmCheck polls iv a c tag t = begunThen polls iv a false
      (hostThen (feed polls .ghashc (chunks c)) fun good =>
        if !good then hostPure false else checkVerdict polls tag t) :=
  if_neg (not_or.mpr ⟨not_not.mpr hlen, Nat.not_lt.mpr ht⟩)

theorem gcmDecryptCheck_eq_begunThen (polls : Nat) (iv a c : List Byte) {tag : List Byte} {t : Nat}
    (hlen : tag.length = t) (ht : t ≤ 31) : gcmDecryptCheck polls iv a c tag t = begunThen polls iv a none
      (hostThen (feedOut polls .dec (chunks c)) fun out =>
        match out with
        | none => hostPure none
        | some p => hostThen (checkVerdict polls tag t) fun good => hostPure (some (p, good))) :=
  if_neg (not_or.mpr ⟨not_not.mpr hlen, Nat.not_lt.mpr ht⟩)

/-- The output and the tag of `gcm_encrypt` and `gcm_decrypt` (44_facade.md R287). -/
theorem gcmCrypt_next (polls : Nat) {mk : Nat → Instr} {d : DMode} (hc : DataCommand mk d) (hd : d ≠ .hash)
    {s : State} (hr : ReadyForMessage s) {iv a x : List Byte} {t : Nat} (hl : MessageLimits iv a x t) :
    ∃ s', gcmCrypt polls mk iv a x t s = .next (some
      (gcmStream (Config.cipher s.keyEpoch) s.m iv x,
       gcmTag (Config.cipher s.keyEpoch) s.m iv a
        (ciphertextOf d x (gcmStream (Config.cipher s.keyEpoch) s.m iv x)) t), s') := by
  obtain ⟨s₁, hbegun, hbegin⟩ := begunThen_next polls hr hl.ivPos hl.iv hl.aad
  obtain ⟨s₂, hfeed, -, hdata⟩ := feedOut_data polls hc hd (chunked_chunks x) (fun _ => hbegun.dataReady hl.data d)
    (congrArg Config.cipher hbegun.keyEpoch) hbegun.civ
  rw [cipherChunks_chunks hc hd] at hdata
  obtain ⟨s₃, hfinish⟩ := finishTag_next polls (hbegun.sessionOpen hdata) hl.tagLow hl.tagHigh
    (gcmStream (Config.cipher s.keyEpoch) s.m iv x)
  have hlen : (ciphertextOf d x (gcmStream (Config.cipher s.keyEpoch) s.m iv x)).length ≤ 16 * Config.blkLimit := by
    unfold ciphertextOf
    split
    · exact (gcmStream_length _ _ _ _).trans_le hl.data
    · exact hl.data
  refine ⟨s₃, ?_⟩
  rw [gcmCrypt_eq_begunThen _ _ _ _ _ (hl.tagHigh.trans (by decide)), hbegin, hostThen_of_next hfeed]
  refine hfinish.trans ?_
  rw [hbegun.sessionTag hl.aad hlen hdata]
  rfl

/-- A message that `gcm_encrypt` or `gcm_decrypt` accepts is within the limits. -/
theorem limits_of_gcmCrypt (polls : Nat) {mk : Nat → Instr} {d : DMode} (hc : DataCommand mk d) (hd : d ≠ .hash)
    {s s' : State} (hr : ReadyForMessage s) {iv a x : List Byte} {t : Nat} {r : List Byte × List Byte}
    (h : gcmCrypt polls mk iv a x t s = .next (some r, s')) : MessageLimits iv a x t := by
  have ht : t ≤ 31 := by
    by_contra hlong
    rw [gcmCrypt, if_pos (Nat.not_le.mp hlong)] at h
    cases h
  rw [gcmCrypt_eq_begunThen _ _ _ _ _ ht] at h
  obtain ⟨⟨h1, hiv, ha⟩, s₁, hbegun, hrest⟩ := begun_of_begunThen polls hr h nofun
  obtain ⟨out, s₂, hfeed, hend⟩ := hostThen_eq_next hrest
  cases out with
  | none => cases hend
  | some y =>
    have hready : chunks x ≠ [] → DataReady d (chunks x).length s₁ :=
      dataReady_of_feedOut polls hc (chunked_chunks x)
        (fun _ => hbegun.dataReady (x := []) (Nat.zero_le _) d) hfeed
    obtain ⟨s₂', hfeed', -, hdata⟩ := feedOut_data polls hc hd (chunked_chunks x) hready rfl rfl
    obtain ⟨-, rfl⟩ := answer_unique hfeed hfeed'
    obtain ⟨h4, h16⟩ := finishTag_length polls (hbegun.sessionOpen hdata) ht hend
    exact ⟨h1, hiv, ha, data_length_of_ready hready, h4, h16⟩

section

variable {s : State} (hr : ReadyForMessage s) {iv a c : List Byte} {t : Nat} (hl : MessageLimits iv a c t)

include hr hl

/-- `gcm_check` accepts the tag over AAD and ciphertext (44_facade.md R282). -/
theorem gcmCheck_accepts (polls : Nat) :
    ∃ s', gcmCheck polls iv a c (gcmTag (Config.cipher s.keyEpoch) s.m iv a c t) t s = .next (true, s') := by
  obtain ⟨s₁, hbegun, hbegin⟩ := begunThen_next polls hr hl.ivPos hl.iv hl.aad
  obtain ⟨s₂, hfeed, hdata⟩ := feed_ghashc polls (chunked_chunks c) fun _ => hbegun.dataReady hl.data .hash
  obtain ⟨s₃, hcheck⟩ := checkVerdict_accepts polls (hbegun.sessionOpen hdata) hl.tagLow hl.tagHigh
    (congrArg (bytesOf t) (hbegun.sessionTag hl.aad hl.data hdata).symm)
  refine ⟨s₃, ?_⟩
  rw [gcmCheck_eq_begunThen _ _ _ _ (gcmTag_length _ _ _ _ _ _) (hl.tagHigh.trans (by decide)), hbegin,
    hostThen_of_next hfeed]
  exact hcheck

/-- DEC with CHECK in place of FINISH returns the CTR output and accepts that tag (44_facade.md R281). -/
theorem gcmDecryptCheck_accepts (polls : Nat) :
    ∃ s', gcmDecryptCheck polls iv a c (gcmTag (Config.cipher s.keyEpoch) s.m iv a c t) t s =
      .next (some (gcmStream (Config.cipher s.keyEpoch) s.m iv c, true), s') := by
  obtain ⟨s₁, hbegun, hbegin⟩ := begunThen_next polls hr hl.ivPos hl.iv hl.aad
  obtain ⟨s₂, hfeed, -, hdata⟩ := feedOut_data polls .dec nofun (chunked_chunks c)
    (fun _ => hbegun.dataReady hl.data .dec) (congrArg Config.cipher hbegun.keyEpoch) hbegun.civ
  rw [cipherChunks_dec] at hdata
  obtain ⟨s₃, hcheck⟩ := checkVerdict_accepts polls (hbegun.sessionOpen hdata) hl.tagLow hl.tagHigh
    (congrArg (bytesOf t) (hbegun.sessionTag hl.aad hl.data hdata).symm)
  refine ⟨s₃, ?_⟩
  rw [gcmDecryptCheck_eq_begunThen _ _ _ _ (gcmTag_length _ _ _ _ _ _) (hl.tagHigh.trans (by decide)), hbegin,
    hostThen_of_next hfeed]
  exact hostThen_of_next hcheck

end

/-- Settles O60: an encryption that succeeds shows that the message is within the limits, its output has the same
length, and the keystream taken off again gives the plaintext. -/
theorem encryptThenDecryptAndCheckRoundTrip : Obligations.EncryptThenDecryptAndCheckRoundTrip := by
  intro polls polls' iv a p c τ t s s₁ s₂ hr h hr₂ hm hk
  have hl := limits_of_gcmCrypt polls .enc nofun hr h
  obtain ⟨s₁', henc⟩ := gcmCrypt_next polls .enc nofun hr hl
  obtain ⟨hout, -⟩ := answer_unique h henc
  obtain ⟨hc, hτ⟩ := Prod.mk.inj (Option.some.inj hout)
  rw [← hm, ← hk] at hc hτ
  have hplain : gcmStream (Config.cipher s₂.keyEpoch) s₂.m iv c = p := by rw [hc, gcmStream_gcmStream]
  have htag : τ = gcmTag (Config.cipher s₂.keyEpoch) s₂.m iv a c t := by
    rw [hτ, hc]
    rfl
  have hl₂ : MessageLimits iv a c t := hl.of_length_eq (by rw [hc, gcmStream_length])
  refine ⟨?_, ?_, ?_⟩
  · obtain ⟨s₃, hdec⟩ := gcmCrypt_next polls' .dec nofun hr₂ hl₂
    rw [hplain] at hdec
    exact ⟨s₃, htag ▸ hdec⟩
  · exact htag ▸ gcmCheck_accepts hr₂ hl₂ polls'
  · have hcheck := gcmDecryptCheck_accepts hr₂ hl₂ polls'
    rw [hplain, ← htag] at hcheck
    exact hcheck

end Sys2Proof.Machine
end

section
/-! Proofs about the façade (spec/44_facade.md): `gcm_encrypt` is GCM (R287), and what a key change frees until GENH, or
LOADH with the matching H, settles it (R283, 70_reset_and_hazards.md R351). -/

namespace Sys2Proof.Machine

open Sys2Proof

/-- Settles O59: ENC is the data command whose ciphertext is its output, and the table of the state is that of E(0). -/
theorem gcmEncryptComputesGcm : Obligations.GcmEncryptComputesGcm := by
  intro polls s iv a p t hr hm h1 hiv ha hp h4 h16
  rw [← hm]
  exact gcmCrypt_next polls .enc nofun hr ⟨h1, hiv, ha, hp, h4, h16⟩

/-! ### Effects under any key port -/

section

variable {n : Nat} {s : State}

/-- A further block of a long IV. -/
theorem effectIvblk_continues (hs : s.sess = .ivload) :
    effectIvblk s = { s with acc := foldNow s s.acc s.opnd, ivLen := s.ivLen + 16, err := .ok } := by
  rw [effectIvblk, beginIv_of_ivload hs, foldIv, ← hs]

/-- The first block of a long IV. -/
theorem effectIvblk_begins (hs : s.sess ≠ .ivload) :
    effectIvblk s = { clearSession s with
      acc := foldNow s 0 s.opnd, ivLen := 16, sess := .ivload, err := .ok } := by
  rw [effectIvblk, beginIv_of_not_ivload hs]
  rfl

theorem openSession_eq (j0 : Block) (s : State) :
    openSession j0 s = { SessionOpenedOn j0 s with gctr0 := cipherAnswer s j0 } := rfl

/-- J0 is a fold wherever START does not take the fast path (42_session.md R201). -/
theorem startJ0_eq_fold (h : ¬ (n = 12 ∧ s.sess ≠ .ivload)) : ∃ acc b, startJ0 n s = foldNow s acc b := by
  by_cases hs : s.sess = .ivload
  · exact ⟨_, _, startJ0_of_ivload hs⟩
  · exact ⟨_, _, startJ0_general hs fun h12 => h ⟨h12, hs⟩⟩

theorem effectAad_of_open (ha : s.aphc = false) : effectAad n s = { s with
    acc := foldNow s s.acc (pad s.opnd n), lenA := s.lenA + BitVec.ofNat 64 n
    aphc := decide (n < 16), err := .ok } := by
  rw [effectAad, ha, Bool.false_or]

variable (hopen : s.dclosed = false)

include hopen

theorem effectEnc_of_open : effectEnc n s = { s with
    civ := inc32 s.civ
    dout := pad (s.opnd ^^^ cipherAnswer s (inc32 s.civ)) n
    acc := foldNow s s.acc (pad (s.opnd ^^^ cipherAnswer s (inc32 s.civ)) n)
    lenC := s.lenC + BitVec.ofNat 64 n, blkCnt := s.blkCnt + 1
    dmode := .enc, aphc := true, dclosed := decide (n < 16), err := .ok
    cipherLog := inc32 s.civ :: s.cipherLog } := by
  rw [effectEnc, commitData_of_open (s := ctrStep n _ s) hopen, ctrStep, keystreamXor_eq]
  rfl

theorem effectDec_of_open : effectDec n s = { s with
    civ := inc32 s.civ
    dout := pad (s.opnd ^^^ cipherAnswer s (inc32 s.civ)) n
    acc := foldNow s s.acc (pad s.opnd n)
    lenC := s.lenC + BitVec.ofNat 64 n, blkCnt := s.blkCnt + 1
    dmode := .dec, aphc := true, dclosed := decide (n < 16), err := .ok
    cipherLog := inc32 s.civ :: s.cipherLog } := by
  rw [effectDec, commitData_of_open (s := ctrStep n _ s) hopen, ctrStep, keystreamXor_eq]
  rfl

theorem effectGhashc_of_open : effectGhashc n s = { s with
    acc := foldNow s s.acc (pad s.opnd n)
    lenC := s.lenC + BitVec.ofNat 64 n, blkCnt := s.blkCnt + 1
    dmode := .hash, aphc := true, dclosed := decide (n < 16), err := .ok } :=
  commitData_of_open (s := { s with acc := foldNow s s.acc (pad s.opnd n) }) hopen

end

/-- A key change during a table command stays open (log 6). -/
theorem settleKey_of_torn (b : Bool) {s : State} (h : s.keyPort = .torn) : settleKey b s = s := by
  have hport : s.keyPort.afterTable b = s.keyPort := by rw [h, KeyPort.afterTable]
  rw [settleKey, hport]

/-! ### The counter of free values -/

theorem commandEffect_freeCtr (i : Instr) (s : State) : (commandEffect i s).freeCtr = s.freeCtr := by
  cases i with
  | ivblk =>
    show (beginIv s).freeCtr = s.freeCtr
    unfold beginIv
    split <;> rfl
  | _ => rfl

/-- No command moves the counter of free values: its completion does. -/
theorem exec_freeCtr {i : Instr} {s t : State} (h : exec i s = .next t) : t.freeCtr = s.freeCtr :=
  exec_keeps_of_effect State.freeCtr (fun _ _ => rfl) (commandEffect_freeCtr i s) h

/-- The end of a completion that leaves a key change open. -/
theorem retire_unsettled {s : State} (h : (retire s).keyPort ≠ .settled) :
    (retire s).freeCtr = s.freeCtr + 1 ∧ (retire s).keyPort = .rebound := by
  rw [retire_keyPort] at h
  rw [retire_freeCtr, retire_keyPort, nextFree]
  cases hk : s.keyPort with
  | settled => exact absurd (congrArg KeyPort.afterFlight hk) h
  | rebound => exact ⟨rfl, rfl⟩
  | torn => exact ⟨rfl, rfl⟩

theorem complete_unsettled {s t : State} (h : complete s = .next t) (hk : t.keyPort ≠ .settled) :
    t.freeCtr = s.freeCtr + 1 ∧ t.keyPort = .rebound := by
  obtain ⟨i, u, -, hx, rfl⟩ | ⟨e, -, rfl⟩ := complete_cases h
  · rw [← exec_freeCtr hx]
    exact retire_unsettled hk
  · exact retire_unsettled hk

/-! ### Table commands and an open key change -/

/-- With a table of the bound key, and no session open, every command is admitted (70_reset_and_hazards.md R355). -/
theorem admitted_write_cmd_of_table {s : State} (hb : s.busy = false) (htv : s.tv = true) (hk : s.keyPort = .settled)
    (hs : s.sess = .idle) (w : Word) : admitted (.write .w32 0x00 w) s = true := by
  refine admitted_write_cmd.mpr ⟨hb, ?_, ?_⟩
  · simp [tableDuty, htv, hk]
  · simp [streamDuty, hs]

theorem effectGenh_keyPort_of_rebound {s : State} (h : s.keyPort = .rebound) : (effectGenh s).keyPort = .settled := by
  show s.keyPort.afterTable true = .settled
  rw [h, KeyPort.afterTable, if_pos rfl]

section

variable {s t : State} (hb : s.busy = true) (h : perform .blockTurn s = .next t)

include hb h

/-- The block's turn with a command in flight whose checks pass. -/
theorem blockTurn_performs {i : Instr} (hd : decode s.debugMulh s.pend = .ok i) (hv : commandVerdict i s = .perform) :
    t = retire (commandEffect i s) := by
  rw [perform_blockTurn_busy hb, complete_of_decode hd, exec_of_verdict hv] at h
  exact (Host.Outcome.next.inj h).symm

variable (hk : s.keyPort = .rebound)

include hk

/-- LOADH of another subkey than that of the bound key leaves the key change open. -/
theorem blockTurn_loadh_unmatched (hd : decode s.debugMulh s.pend = .ok .loadh)
    (hne : s.opnd ≠ Config.cipher s.keyEpoch 0) : t.keyPort = .rebound := by
  obtain rfl := blockTurn_performs hb h hd rfl
  have hport : (effectLoadh s).keyPort = .rebound := by
    rw [effectLoadh_keyPort, if_neg fun hm => hne hm.2, hk]
  exact congrArg KeyPort.afterFlight hport

/-- GENH, and LOADH of the subkey of the bound key, settle the key change and leave an idle block with a table. -/
theorem blockTurn_settles_key (hd : decode s.debugMulh s.pend = .ok .genh ∨
      (decode s.debugMulh s.pend = .ok .loadh ∧ s.opnd = Config.cipher s.keyEpoch 0)) :
    t.keyPort = .settled ∧ t.busy = false ∧ t.tv = true ∧ t.sess = .idle := by
  obtain hd | ⟨hd, hm⟩ := hd
  · obtain rfl := blockTurn_performs hb h hd rfl
    exact ⟨congrArg KeyPort.afterFlight (effectGenh_keyPort_of_rebound hk), rfl, rfl, rfl⟩
  · obtain rfl := blockTurn_performs hb h hd rfl
    have hport : (effectLoadh s).keyPort = .settled := (effectLoadh_keyPort s).trans (if_pos ⟨hk, hm⟩)
    exact ⟨congrArg KeyPort.afterFlight hport, rfl, rfl, rfl⟩

end

/-- Settles O35: the verdicts and effects are those of a settled key, with the free values as the cipher's answers and the
folds; the port after a table command says what is admitted. -/
theorem unsettledKeyAnswersAreFree : Obligations.UnsettledKeyAnswersAreFree := by
  refine ⟨fun _ => rfl, fun s hk => ?_, fun s hk htv hs hl => ?_, fun s hk htv hs => ?_,
    fun s n hk htv h16 h0 hl => ⟨?_, ?_, fun hgen => ?_⟩, fun s n hk hs hd ha h1 h16 hl => ?_,
    fun s n hk ho h1 h16 hl => ?_, fun s n hk ho h1 h16 hl => ?_, fun s n hk ho h1 h16 hl => ?_,
    fun s t hb _ h hopen => ?_, fun s t hb hk hd hne h => ?_, fun s t hb hk hd h => ?_⟩
  · have hopen : s.keyPort ≠ .settled := by rw [hk]; nofun
    show Host.Outcome.next (effectGenh s) = _
    rw [effectGenh, settleKey_of_torn true hk, cipherAnswer_unsettled 0 hopen]
    rfl
  · rw [exec_ivblk_perform htv (ivBase_within_limit fun _ => hl), effectIvblk_continues hs, foldNow_unsettled _ _ hk]
  · rw [exec_ivblk_perform htv (ivBase_within_limit fun h => absurd h hs), effectIvblk_begins hs,
      foldNow_unsettled _ _ hk, BitVec.ofNat_eq_ofNat, BitVec.zero_xor]
    rfl
  · have hiv : s.sess = .ivload ∧ s.ivLen.toNat + n ≤ Config.lenLimit ∨ s.sess ≠ .ivload ∧ n ≠ 0 := by
      by_cases hs : s.sess = .ivload
      · exact .inl ⟨hs, hl hs⟩
      · exact .inr ⟨hs, fun h => hs (h0 h)⟩
    rw [exec_start_perform (verdictStart_perform.mpr ⟨htv, h16, hiv⟩), effectStart, openSession_eq,
      cipherAnswer_unsettled _ hk]
  · rintro rfl hs
    exact startJ0_fast hs
  · obtain ⟨acc, b, hj⟩ := startJ0_eq_fold hgen
    exact ⟨acc ^^^ b, hj.trans (foldNow_unsettled acc b hk)⟩
  · rw [← foldNow_unsettled _ _ hk, ← effectAad_of_open ha]
    exact exec_of_verdict (i := .aad n) (verdictAad_perform.mpr ⟨hs, hd, ha, h16, Nat.ne_of_gt h1, hl⟩)
  · have ⟨_, _, hopen⟩ := ho
    rw [← foldNow_unsettled _ _ hk, ← cipherAnswer_unsettled _ hk, ← effectEnc_of_open hopen]
    exact DataCommand.enc.performed ho h1 h16 hl
  · have ⟨_, _, hopen⟩ := ho
    rw [← foldNow_unsettled _ _ hk, ← cipherAnswer_unsettled _ hk, ← effectDec_of_open hopen]
    exact DataCommand.dec.performed ho h1 h16 hl
  · have ⟨_, _, hopen⟩ := ho
    rw [← foldNow_unsettled _ _ hk, ← effectGhashc_of_open hopen]
    exact DataCommand.ghashc.performed ho h1 h16 hl
  · exact complete_unsettled ((perform_blockTurn_busy hb).symm.trans h) hopen
  · have hport := blockTurn_loadh_unmatched hb h hk hd hne
    refine ⟨hport, fun w hw => Bool.eq_false_iff.mpr fun hadm => ?_⟩
    have hallowed := admitted_write_cmd_unsettled (by rw [hport]; nofun) hadm
    exact absurd (hallowed.symm.trans hw) nofun
  · obtain ⟨hport, hidle, htv, hs⟩ := blockTurn_settles_key hb h hk hd
    exact ⟨hport, fun n _ => admitted_write_cmd_of_table hidle htv hport hs _⟩

end Sys2Proof.Machine
end

section
/-! Proofs about the error codes (spec/60_exceptions.md): which code a command reports, by the priority of its checks
(R303 to R308), what a failing command changes (R302), how FAULT is left (R309), and what the codes reveal (R316). -/

namespace Sys2Proof.Machine

open Sys2Proof

/-! ### Nothing stops the machine -/

theorem complete_next (s : State) : ∃ t, complete s = .next t := by
  cases hd : decode s.debugMulh s.pend with
  | error e => exact ⟨_, complete_of_illegal hd⟩
  | ok i =>
    obtain ⟨u, hu⟩ := exec_next i s
    exact ⟨retire u, by rw [complete_of_decode hd, hu, retireOutcome_next]⟩

theorem perform_next (e : HostEvent) (s : State) : ∃ t, perform e s = .next t := by
  cases e with
  | blockTurn =>
    cases hb : s.busy with
    | true => rw [perform_blockTurn_busy hb]; exact complete_next s
    | false => exact ⟨s, perform_blockTurn_idle hb⟩
  | _ => exact ⟨_, rfl⟩

/-- Settles O4: a step is an event, and the only event that runs a command is a completion. -/
theorem everyCommandAndStepCompletes : Obligations.EveryCommandAndStepCompletes := by
  refine ⟨exec_next, perform_next, fun s => ?_⟩
  unfold step nextEvent
  split <;> exact perform_next _ _

/-! ### The code that the checks report -/

/-- The code of a verdict; CHECK alone may report another one, AUTHFAIL, after its checks have passed. -/
def Verdict.code : Verdict → ErrCode
  | .refuse e => e
  | .limit => .limit
  | .noop => .ok
  | .perform => .ok

theorem eq_refuse_of_code {v : Verdict} {e : ErrCode} (h : v.code = e) (hok : e ≠ .ok) (hlimit : e ≠ .limit) :
    v = .refuse e := by
  cases v with
  | refuse c => exact congrArg Verdict.refuse h
  | limit => exact absurd h.symm hlimit
  | noop | perform => exact absurd h.symm hok

theorem eq_limit_of_code {i : Instr} {s : State} (h : (commandVerdict i s).code = .limit) :
    commandVerdict i s = .limit := by
  cases hv : commandVerdict i s with
  | refuse e =>
    obtain rfl : e = .limit := by rwa [hv] at h
    exact absurd (refuse_code hv) (by decide)
  | limit => rfl
  | noop | perform => rw [hv] at h; cases h

/-- The code of the first check that fails, in the priority of 60_exceptions.md R303: `state`, `param` and `limit` are
the conditions of R305 to R307. They are stated for a command that exists, so an `absent` one meets none of them. -/
inductive FirstFailing (absent state param limit : Prop) : ErrCode → Prop
  | illegal (ha : absent) (hs : ¬ state) (hp : ¬ param) (hl : ¬ limit) : FirstFailing absent state param limit .illegal
  | state (hs : state) : FirstFailing absent state param limit .state
  | param (hs : ¬ state) (hp : param) : FirstFailing absent state param limit .param
  | limit (hs : ¬ state) (hp : ¬ param) (hl : limit) : FirstFailing absent state param limit .limit
  | ok (hs : ¬ state) (hp : ¬ param) (hl : ¬ limit) : FirstFailing absent state param limit .ok

namespace FirstFailing

variable {absent state param limit : Prop} {e : ErrCode}

theorem eq_state_iff (h : FirstFailing absent state param limit e) : e = .state ↔ state := by
  cases h <;> simp [*]

theorem eq_param_iff (h : FirstFailing absent state param limit e) : e = .param ↔ ¬ state ∧ param := by
  cases h <;> simp [*]

theorem eq_limit_iff (h : FirstFailing absent state param limit e) : e = .limit ↔ ¬ state ∧ ¬ param ∧ limit := by
  cases h <;> simp [*]

theorem ne_authfail (h : FirstFailing absent state param limit e) : e ≠ .authfail := by
  rintro rfl; cases h

theorem absent_of_illegal (h : FirstFailing absent state param limit .illegal) : absent := by
  cases h; assumption

end FirstFailing

/-! ### The checks of each command, as the spec's conditions -/

theorem verdictMulh_firstFailing (s : State) : FirstFailing (s.debugMulh = false) (StateError .mulh s)
    (LenIllegal .mulh s) (PastLimit .mulh s) (verdictMulh s).code := by
  cases hd : s.debugMulh with
  | false =>
    have hv : verdictMulh s = .refuse .illegal := by simp [verdictMulh, hd]
    rw [hv]
    exact .illegal rfl (by simp [StateError, hd]) id id
  | true =>
    cases ht : s.tv with
    | false => rw [verdictMulh_state hd ht]; exact .state ⟨hd, ht⟩
    | true => rw [verdictMulh_perform.mpr ⟨hd, ht⟩]; exact .ok (by simp [StateError, ht]) id id

section

variable {absent : Prop}

theorem verdictIvblk_firstFailing (s : State) :
    FirstFailing absent (StateError .ivblk s) (LenIllegal .ivblk s) (PastLimit .ivblk s) (verdictIvblk s).code := by
  cases ht : s.tv with
  | false => rw [verdictIvblk_state ht]; exact .state ht
  | true =>
    have hs : ¬ StateError .ivblk s := by simp [StateError, ht]
    by_cases hl : PastLimit .ivblk s
    · obtain ⟨hiv, hlen⟩ := hl
      rw [verdictIvblk_past_limit ht (by rw [ivBase_of_ivload hiv]; exact hlen)]
      exact .limit hs id ⟨hiv, hlen⟩
    · have hbase : ivBase s + 16 ≤ Config.lenLimit :=
        ivBase_within_limit fun hiv => Nat.not_lt.mp fun hlen => hl ⟨hiv, hlen⟩
      rw [verdictIvblk_perform.mpr ⟨ht, hbase⟩]
      exact .ok hs id hl

theorem verdictStart_firstFailing (n : Nat) (s : State) : FirstFailing absent (StateError (.start n) s)
    (LenIllegal (.start n) s) (PastLimit (.start n) s) (verdictStart n s).code := by
  cases ht : s.tv with
  | false => rw [verdictStart_state ht]; exact .state ht
  | true =>
    have hs : ¬ StateError (.start n) s := by simp [StateError, ht]
    by_cases hp : LenIllegal (.start n) s
    · rw [verdictStart_param ht hp]; exact .param hs hp
    obtain ⟨h16, h0⟩ := not_or.mp hp
    by_cases hl : PastLimit (.start n) s
    · obtain ⟨hiv, hlen⟩ := hl
      rw [verdictStart_past_limit ht hiv (Nat.not_lt.mp h16) hlen]
      exact .limit hs hp ⟨hiv, hlen⟩
    · have hfits : s.sess = .ivload ∧ s.ivLen.toNat + n ≤ Config.lenLimit ∨ s.sess ≠ .ivload ∧ n ≠ 0 := by
        by_cases hiv : s.sess = .ivload
        · exact .inl ⟨hiv, Nat.not_lt.mp fun hlen => hl ⟨hiv, hlen⟩⟩
        · exact .inr ⟨hiv, fun hn => h0 ⟨hn, hiv⟩⟩
      rw [verdictStart_perform.mpr ⟨ht, Nat.not_lt.mp h16, hfits⟩]
      exact .ok hs hp hl

theorem verdictAad_firstFailing (n : Nat) (s : State) : FirstFailing absent (StateError (.aad n) s)
    (LenIllegal (.aad n) s) (PastLimit (.aad n) s) (verdictAad n s).code := by
  unfold verdictAad
  split_ifs with hsess hphase h16 h0 hlen
  · exact .state (.inl hsess)
  · exact .state (.inr hphase)
  all_goals have hs : ¬ StateError (.aad n) s := not_or.mpr ⟨hsess, hphase⟩
  · exact .param hs h16
  · exact .ok hs h16 fun hl => absurd h0 (Nat.ne_of_gt hl.1)
  · exact .limit hs h16 ⟨Nat.pos_of_ne_zero h0, hlen⟩
  · exact .ok hs h16 fun hl => hlen hl.2

theorem verdictData_firstFailing (d : DMode) (n : Nat) (s : State) :
    FirstFailing absent (DataStateError d s) (16 < n) (PastBlockLimit n s) (verdictData d n s).code := by
  unfold verdictData
  split_ifs with hsess hphase h16 h0 hblk
  · exact .state (.inl hsess)
  · exact .state (.inr hphase)
  all_goals have hs : ¬ DataStateError d s := not_or.mpr ⟨hsess, hphase⟩
  · exact .param hs h16
  · exact .ok hs h16 fun hl => absurd h0 (Nat.ne_of_gt hl.1)
  · exact .limit hs h16 ⟨Nat.pos_of_ne_zero h0, hblk⟩
  · exact .ok hs h16 fun hl => hblk hl.2

theorem verdictTag_firstFailing (t : Nat) (s : State) :
    FirstFailing absent (s.sess ≠ .started) (t < 4 ∨ 16 < t) False (verdictTag t s).code := by
  unfold verdictTag
  split_ifs with hs ht
  · exact .state hs
  · exact .param hs ht
  · exact .ok hs ht id

end

/-- Every command's checks report the first condition of the spec that holds. -/
theorem commandVerdict_firstFailing (i : Instr) (s : State) : FirstFailing (i.present s.debugMulh = false)
    (StateError i s) (LenIllegal i s) (PastLimit i s) (commandVerdict i s).code := by
  cases i with
  | nop | genh | loadh => exact .ok id id id
  | mulh => exact verdictMulh_firstFailing s
  | ivblk => exact verdictIvblk_firstFailing s
  | start n => exact verdictStart_firstFailing n s
  | aad n => exact verdictAad_firstFailing n s
  | enc n => exact verdictData_firstFailing .enc n s
  | dec n => exact verdictData_firstFailing .dec n s
  | ghashc n => exact verdictData_firstFailing .hash n s
  | finish n | check n => exact verdictTag_firstFailing n s

/-! ### The code that a command leaves in ERR -/

/-- The tags of a CHECK whose checks pass differ in their first bytes (43_tag.md R252). -/
def TagsDiffer (i : Instr) (s : State) : Prop :=
  ∃ n : Nat, i = .check n ∧ verdictTag n s = .perform ∧ bytesOf n (SessionTag s) ≠ bytesOf n s.opnd

theorem commandEffect_err {i : Instr} {s : State} (hv : commandVerdict i s = .perform) :
    (commandEffect i s).err = .ok ∨ (commandEffect i s).err = .authfail ∧ TagsDiffer i s := by
  cases i with
  | check n =>
    by_cases hm : bytesOf n (SessionTag s) = bytesOf n s.opnd
    · exact .inl (congrArg State.err (effectCheck_of_match hm))
    · exact .inr ⟨congrArg State.err (effectCheck_of_mismatch hm), n, rfl, hv, hm⟩
  | _ => exact .inl rfl

section

variable {i : Instr} {s t : State} (h : exec i s = .next t)

include h

/-- A command leaves the code of its checks in ERR, or it is a CHECK of another tag. -/
theorem exec_err : t.err = (commandVerdict i s).code ∨ t.err = .authfail ∧ TagsDiffer i s := by
  obtain ⟨e, hv, rfl⟩ | ⟨hv, rfl⟩ | ⟨hv, rfl⟩ | ⟨hv, rfl⟩ := exec_cases h
  · rw [hv]; exact .inl rfl
  · rw [hv]; exact .inl rfl
  · rw [hv]; exact .inl rfl
  · rw [hv]; exact commandEffect_err hv

theorem exec_err_eq_iff_code {e : ErrCode} (hok : e ≠ .ok) (ha : e ≠ .authfail) :
    t.err = e ↔ (commandVerdict i s).code = e := by
  obtain herr | ⟨herr, n, rfl, hv, -⟩ := exec_err h
  · rw [herr]
  · have hcode : (commandVerdict (.check n) s).code = .ok := congrArg Verdict.code hv
    rw [herr, hcode]
    exact iff_of_false ha.symm hok.symm

theorem exec_authfail_iff : t.err = .authfail ↔ TagsDiffer i s := by
  constructor
  · intro ha
    obtain herr | ⟨-, hdiffer⟩ := exec_err h
    · exact absurd (herr.symm.trans ha) (commandVerdict_firstFailing i s).ne_authfail
    · exact hdiffer
  · rintro ⟨n, rfl, hv, hm⟩
    obtain rfl := Host.Outcome.next.inj ((exec_of_verdict (i := .check n) hv).symm.trans h)
    exact congrArg State.err (effectCheck_of_mismatch hm)

/-- A command refused with ILLEGAL, STATE or PARAM has changed ERR only. -/
theorem exec_eq_of_refusal (hr : t.err = .illegal ∨ t.err = .state ∨ t.err = .param) : t = { s with err := t.err } := by
  obtain ⟨hok, hlimit, ha⟩ : t.err ≠ .ok ∧ t.err ≠ .limit ∧ t.err ≠ .authfail := by
    obtain he | he | he := hr <;> rw [he] <;> decide
  have hv := eq_refuse_of_code ((exec_err_eq_iff_code h hok ha).mp rfl) hok hlimit
  exact Host.Outcome.next.inj (h.symm.trans (exec_of_verdict hv))

theorem exec_eq_limitFail (hl : t.err = .limit) : t = limitFail s := by
  have hv := eq_limit_of_code ((exec_err_eq_iff_code (e := .limit) h nofun nofun).mp hl)
  exact Host.Outcome.next.inj (h.symm.trans (exec_of_verdict hv))

end

/-- Settles O36: the failing verdicts, and the effect of CHECK where the tags differ. -/
theorem failingCommandsChangeOnlyWhatIsSaid : Obligations.FailingCommandsChangeOnlyWhatIsSaid := by
  refine fun i s t h => ⟨exec_eq_of_refusal h, exec_eq_limitFail h, fun ha => ?_⟩
  obtain ⟨n, rfl, hv, hm⟩ := (exec_authfail_iff h).mp ha
  refine ⟨⟨n, rfl⟩, ?_⟩
  rw [← effectCheck_of_mismatch hm]
  exact Host.Outcome.next.inj (h.symm.trans (exec_of_verdict (i := .check n) hv))

/-- Settles O37: STATE comes first in the priority. -/
theorem stateIsReportedExactly : Obligations.StateIsReportedExactly := fun i s _ h =>
  (exec_err_eq_iff_code (e := .state) h nofun nofun).trans (commandVerdict_firstFailing i s).eq_state_iff

/-- Settles O38: PARAM comes next, and a refusal keeps STATE. -/
theorem paramIsReportedExactly : Obligations.ParamIsReportedExactly := by
  refine fun i s t h =>
    ⟨(exec_err_eq_iff_code (e := .param) h nofun nofun).trans (commandVerdict_firstFailing i s).eq_param_iff,
      fun hp => ?_⟩
  rw [exec_eq_of_refusal h (.inr (.inr hp))]

/-- Settles O40: the checks of CHECK are its state and its LEN. -/
theorem authfailIsReportedOnlyByCheck : Obligations.AuthfailIsReportedOnlyByCheck := by
  intro i s t h
  simp only [exec_authfail_iff h, TagsDiffer, verdictTag_perform, and_assoc]

/-! ### LIMIT and FAULT -/

/-- AAD, the data commands, FINISH and CHECK: the commands of an open session (42_session.md R200). -/
inductive SessionCommand : Instr → Prop
  | aad (n : Nat) : SessionCommand (.aad n)
  | enc (n : Nat) : SessionCommand (.enc n)
  | dec (n : Nat) : SessionCommand (.dec n)
  | ghashc (n : Nat) : SessionCommand (.ghashc n)
  | finish (n : Nat) : SessionCommand (.finish n)
  | check (n : Nat) : SessionCommand (.check n)

theorem sessionCommand_of_listed {i : Instr} {n : Nat}
    (h : i = .aad n ∨ i = .enc n ∨ i = .dec n ∨ i = .ghashc n ∨ i = .finish n ∨ i = .check n) : SessionCommand i := by
  obtain rfl | rfl | rfl | rfl | rfl | rfl := h <;> constructor

theorem SessionCommand.stateError {i : Instr} {s : State} (hi : SessionCommand i) (hs : s.sess ≠ .started) :
    StateError i s := by
  cases hi with
  | aad n | enc n | dec n | ghashc n => exact .inl hs
  | finish n | check n => exact hs

theorem exec_of_stateError {i : Instr} {s : State} (hs : StateError i s) : exec i s = .next (setErr .state s) := by
  have hcode := (commandVerdict_firstFailing i s).eq_state_iff.mpr hs
  exact exec_of_verdict (eq_refuse_of_code hcode nofun nofun)

theorem exec_of_lenIllegal {i : Instr} {s : State} (hs : ¬ StateError i s) (hp : LenIllegal i s) :
    exec i s = .next (setErr .param s) := by
  have hcode := (commandVerdict_firstFailing i s).eq_param_iff.mpr ⟨hs, hp⟩
  exact exec_of_verdict (eq_refuse_of_code hcode nofun nofun)

theorem SessionCommand.exec_outside {i : Instr} {s : State} (hi : SessionCommand i) (hs : s.sess ≠ .started) :
    exec i s = .next (setErr .state s) :=
  exec_of_stateError (hi.stateError hs)

/-- Settles O39: LIMIT comes last in the priority, and FAULT is outside STARTED. -/
theorem limitIsReportedExactly : Obligations.LimitIsReportedExactly := by
  refine fun i s t h =>
    ⟨(exec_err_eq_iff_code (e := .limit) h nofun nofun).trans (commandVerdict_firstFailing i s).eq_limit_iff,
      fun hl => ?_⟩
  obtain rfl := exec_eq_limitFail h hl
  exact ⟨rfl, fun j n hj => (sessionCommand_of_listed hj).exec_outside nofun⟩

section

variable {s t : State} (hs : s.sess = .fault)

include hs

theorem SessionCommand.exec_in_fault {i : Instr} (hi : SessionCommand i) (h : exec i s = .next t) :
    t.sess = .fault ∧ t.err = .state := by
  obtain rfl := Host.Outcome.next.inj ((hi.exec_outside (by rw [hs]; nofun)).symm.trans h)
  exact ⟨hs, rfl⟩

theorem exec_mulh_in_fault (h : exec .mulh s = .next t) : t.sess = .fault := by
  obtain ⟨e, -, rfl⟩ | ⟨-, rfl⟩ | ⟨-, rfl⟩ | ⟨-, rfl⟩ := exec_cases h
  · exact hs
  · rfl
  · exact hs
  · exact hs

variable (htv : s.tv = true)

include htv

theorem exec_ivblk_in_fault (h : exec .ivblk s = .next t) : t.sess = .ivload := by
  have hbase : ivBase s + 16 ≤ Config.lenLimit := ivBase_within_limit (by rw [hs]; nofun)
  obtain rfl := Host.Outcome.next.inj ((exec_ivblk_perform htv hbase).symm.trans h)
  rfl

/-- A START with a legal LEN opens a session; another one is refused with PARAM (42_session.md R201). -/
theorem exec_start_in_fault {n : Nat} (h : exec (.start n) s = .next t) :
    t.sess = if 1 ≤ n ∧ n ≤ 16 then .started else .fault := by
  have hiv : s.sess ≠ .ivload := by rw [hs]; nofun
  split
  · next hn =>
    have hv : verdictStart n s = .perform :=
      verdictStart_perform.mpr ⟨htv, hn.2, .inr ⟨hiv, Nat.ne_of_gt hn.1⟩⟩
    obtain rfl := Host.Outcome.next.inj ((exec_start_perform hv).symm.trans h)
    rfl
  · next hn =>
    have hp : LenIllegal (.start n) s := by
      by_cases h16 : 16 < n
      · exact .inl h16
      · exact .inr ⟨by omega, hiv⟩
    have hstate : ¬ StateError (.start n) s := by simp [StateError, htv]
    obtain rfl := Host.Outcome.next.inj ((exec_of_lenIllegal hstate hp).symm.trans h)
    exact hs

end

/-- Settles O41: in FAULT with a table, command by command. -/
theorem faultIsLeftOnlyByTheListedCommands : Obligations.FaultIsLeftOnlyByTheListedCommands := by
  refine ⟨fun i s t hs htv h => ⟨exec_keeps_tv h htv, ?_, ?_⟩, fun s t h => ?_⟩
  · cases i with
    | nop => obtain rfl := Host.Outcome.next.inj h; exact hs
    | genh | loadh => obtain rfl := Host.Outcome.next.inj h; rfl
    | mulh => exact exec_mulh_in_fault hs h
    | ivblk => exact exec_ivblk_in_fault hs htv h
    | start n => exact exec_start_in_fault hs htv h
    | aad n => exact ((SessionCommand.aad n).exec_in_fault hs h).1
    | enc n => exact ((SessionCommand.enc n).exec_in_fault hs h).1
    | dec n => exact ((SessionCommand.dec n).exec_in_fault hs h).1
    | ghashc n => exact ((SessionCommand.ghashc n).exec_in_fault hs h).1
    | finish n => exact ((SessionCommand.finish n).exec_in_fault hs h).1
    | check n => exact ((SessionCommand.check n).exec_in_fault hs h).1
  · rintro ⟨n, hi⟩
    exact ((sessionCommand_of_listed hi).exec_in_fault hs h).2
  · obtain rfl := Host.Outcome.next.inj h
    rfl

/-! ### What the codes reveal -/

/-- The checks read public registers only. -/
theorem commandVerdict_eq_of_samePublic {s₁ s₂ : State} (h : SamePublic s₁ s₂) (i : Instr) :
    commandVerdict i s₁ = commandVerdict i s₂ := by
  obtain ⟨hsess, htv, hdmode, haphc, hdclosed, hlenA, hivLen, hblkCnt, hdebugMulh⟩ := h
  cases i with
  | nop | genh | loadh => rfl
  | mulh => simp only [commandVerdict, verdictMulh, hdebugMulh, htv]
  | ivblk =>
    have hbase : ivBase s₁ = ivBase s₂ := by simp only [ivBase, hsess, hivLen]
    simp only [commandVerdict, verdictIvblk, hbase, htv]
  | start n => simp only [commandVerdict, verdictStart, htv, hsess, hivLen]
  | aad n => simp only [commandVerdict, verdictAad, hsess, hdmode, haphc, hlenA]
  | enc n | dec n | ghashc n => simp only [commandVerdict, verdictData, hsess, hdmode, hdclosed, hblkCnt]
  | finish n | check n => simp only [commandVerdict, verdictTag, hsess]

/-- A CHECK whose checks pass reports OK or AUTHFAIL. -/
theorem exec_check_err {n : Nat} {s t : State} (hv : commandVerdict (.check n) s = .perform)
    (h : exec (.check n) s = .next t) : t.err = .ok ∨ t.err = .authfail := by
  obtain rfl := Host.Outcome.next.inj ((exec_of_verdict hv).symm.trans h)
  exact effectCheck_err n s

/-- Settles O47: the checks report the same code in both states, and only a CHECK whose checks pass reports another. -/
theorem errorCodesRevealNoSecret : Obligations.ErrorCodesRevealNoSecret := by
  intro i s₁ s₂ t₁ t₂ hpub h₁ h₂
  have hv := commandVerdict_eq_of_samePublic hpub i
  obtain herr₁ | ⟨-, n, rfl, hp, -⟩ := exec_err h₁
  · obtain herr₂ | ⟨-, n, rfl, hp, -⟩ := exec_err h₂
    · exact .inl (by rw [herr₁, herr₂, hv])
    · exact .inr ⟨⟨n, rfl⟩, exec_check_err (hv.trans hp) h₁, exec_check_err hp h₂⟩
  · exact .inr ⟨⟨n, rfl⟩, exec_check_err hp h₁, exec_check_err (hv.symm.trans hp) h₂⟩

/-! ### ILLEGAL -/

theorem decodeClassN_eq_error_iff {n : Nat} {i : Instr} : (∃ e, decodeClassN n i = .error e) ↔ n ≠ 0 := by
  unfold decodeClassN
  split <;> simp [*]

theorem decodeOp_eq_error_iff {d : Bool} {op n : Nat} : (∃ e, decodeOp d op n = .error e) ↔
    0xC ≤ op ∨ (op ≤ 4 ∧ n ≠ 0) ∨ (op = 3 ∧ d = false) := by
  unfold decodeOp
  split
  case h_1 | h_2 | h_3 | h_5 => simp [decodeClassN_eq_error_iff]
  case h_4 => cases d <;> simp [decodeClassN_eq_error_iff]
  case h_13 =>
    refine iff_of_true ⟨_, rfl⟩ (.inl (Nat.not_lt.mp fun hlt => ?_))
    interval_cases op <;> contradiction
  all_goals simp

/-- The words of 60_exceptions.md R304 are those that `decode` refuses. -/
theorem decode_eq_error_iff {d : Bool} {w : Word} : (∃ e, decode d w = .error e) ↔
    w.extractLsb' 13 19 ≠ 0 ∨ w.extractLsb' 4 4 ≠ 0 ∨ 0xC ≤ (w.extractLsb' 0 4).toNat ∨
      ((w.extractLsb' 0 4).toNat ≤ 4 ∧ w.extractLsb' 8 5 ≠ 0) ∨
      ((w.extractLsb' 0 4).toNat = 3 ∧ d = false) := by
  have hfield {k : Nat} (x : BitVec k) : x ≠ 0 ↔ x.toNat ≠ 0 := not_congr BitVec.toNat_inj.symm
  rw [hfield, hfield, hfield]
  change _ ↔ fieldRsv1 w ≠ 0 ∨ fieldRsv0 w ≠ 0 ∨ 0xC ≤ fieldOp w ∨ (fieldOp w ≤ 4 ∧ fieldLen w ≠ 0) ∨
    (fieldOp w = 3 ∧ d = false)
  rw [← or_assoc, ← decodeOp_eq_error_iff]
  unfold decode
  split
  · next hrsv => exact iff_of_true ⟨_, rfl⟩ (.inl hrsv)
  · next hrsv => exact (or_iff_right hrsv).symm

/-- A decoded command exists, so its checks do not report ILLEGAL. -/
theorem exec_err_ne_illegal {i : Instr} {s t : State} (hd : decode s.debugMulh s.pend = .ok i)
    (h : exec i s = .next t) : t.err ≠ .illegal := by
  intro hill
  obtain ⟨-, hpresent⟩ := decode_eq_ok_iff.mp hd
  have hfirst := commandVerdict_firstFailing i s
  rw [(exec_err_eq_iff_code (e := .illegal) h nofun nofun).mp hill] at hfirst
  exact absurd (hpresent.symm.trans hfirst.absent_of_illegal) nofun

/-- Settles O8: a completion reports ILLEGAL exactly where `decode` refuses PEND. -/
theorem illegalIsReportedForExactlyTheListedWords : Obligations.IllegalIsReportedForExactlyTheListedWords := by
  intro s hb
  rw [perform_blockTurn_busy hb, ← decode_eq_error_iff]
  cases hd : decode s.debugMulh s.pend with
  | error e => exact ⟨_, complete_of_illegal hd, rfl, iff_of_true rfl ⟨e, rfl⟩, fun _ => rfl⟩
  | ok i =>
    obtain ⟨u, hu⟩ := exec_next i s
    have hne : u.err ≠ .illegal := exec_err_ne_illegal hd hu
    exact ⟨retire u, by rw [complete_of_decode hd, hu, retireOutcome_next], rfl, iff_of_false hne nofun,
      fun hill => absurd hill hne⟩

end Sys2Proof.Machine
end

section
/-! Proofs about the events and their order (spec/70_reset_and_hazards.md): Reset (R341), acceptance (R345), the block's
turn (R346), what the host writes while a command is in flight (R348, R349), and the latency (R353, R354). -/

namespace Sys2Proof.Machine

open Sys2Proof

/-! ### The step -/

theorem step_of_host_nil {s : State} (h : s.host = []) : step s = perform .blockTurn s := by
  rw [step, nextEvent, h]

theorem step_of_host_cons {s : State} {e : HostEvent} {rest : List HostEvent} (h : s.host = e :: rest) :
    step s = perform e { s with host := rest } := by
  rw [step, nextEvent, h]

/-- Settles O2: the list of events is empty or has a first one, and an idle block's turn does nothing. -/
theorem stepPerformsTheFirstEvent : Obligations.StepPerformsTheFirstEvent :=
  ⟨fun _ _ _ h => step_of_host_cons h, fun _ h _ => step_of_host_nil h,
    fun _ h hb => (step_of_host_nil h).trans (perform_blockTurn_idle hb)⟩

/-- The block's turn with a command in flight runs the command PEND decodes to, and retires it
(70_reset_and_hazards.md R346). -/
theorem blockTurn_runs {s : State} {i : Instr} (hb : s.busy = true) (hd : decode s.debugMulh s.pend = .ok i) :
    ∃ t, exec i s = .next t ∧ perform .blockTurn s = .next (retire t) := by
  obtain ⟨t, ht⟩ := exec_next i s
  exact ⟨t, ht, by rw [perform_blockTurn_busy hb, complete_of_decode hd, ht, retireOutcome_next]⟩

theorem blockTurn_of_illegal {s : State} {e : Illegal} (hb : s.busy = true) (hd : decode s.debugMulh s.pend = .error e) :
    perform .blockTurn s = .next (completeIllegal s) :=
  (perform_blockTurn_busy hb).trans (complete_of_illegal hd)

/-- Placing a word gives the block its turn on that word, as accepted (log 2). -/
theorem step_withFetchWord (w : Word) (s : State) :
    step (s.withFetchWord 32 w.toNat) = perform .blockTurn (accept w s) := by
  have hword : BitVec.ofNat 32 (w.toNat % 2 ^ 32) = w := by
    rw [Nat.mod_eq_of_lt w.isLt, BitVec.ofNat_toNat, BitVec.setWidth_eq]
  rw [State.withFetchWord, hword]
  exact step_of_host_cons rfl

/-- Settles O3: each of the three steps is the block's turn with a command in flight. -/
theorem stepRunsTheDecodedCommand : Obligations.StepRunsTheDecodedCommand := by
  refine ⟨fun s i hnil hb hd => ?_, fun s i rest hcons hb hd => ?_, fun s i hwf => ?_⟩
  · rw [step_of_host_nil hnil]
    exact blockTurn_runs hb hd
  · rw [step_of_host_cons hcons]
    exact blockTurn_runs (s := { s with host := rest }) hb hd
  · rw [step_withFetchWord]
    exact blockTurn_runs (s := accept (encode i) s) rfl (decodeOfEncodeIsTheCommand _ i hwf)

/-! ### Reset -/

/-- Settles O1: the registers of `resetBlock`, with STATUS as in O9. -/
theorem resetSetsEveryRegister : Obligations.ResetSetsEveryRegister := by
  obtain ⟨-, -, hstatus⟩ := statusFieldsAndWrite
  refine fun s => ⟨resetBlock s, rfl, ⟨rfl, fun i => ?_⟩, ?_⟩
  · exact Vector.getElem_replicate _
  · exact ⟨rfl, rfl, rfl, rfl, rfl, rfl, rfl, rfl, rfl, rfl, rfl, rfl, rfl, rfl, rfl, rfl, rfl, rfl, rfl, rfl,
      hstatus s _ rfl, rfl, rfl, perform_blockTurn_idle rfl, rfl⟩

/-! ### Writes to CMD -/

theorem perform_write_cmd_idle (w : Word) {s : State} (hb : s.busy = false) :
    perform (.write .w32 0x00 w) s = .next (reply ⟨0, false⟩ (accept w s)) := by
  rw [perform, hostWrite_cmd, writeCmd, hb, if_neg Bool.false_ne_true]

theorem perform_write_cmd_busy (w : Word) {s : State} (hb : s.busy = true) :
    perform (.write .w32 0x00 w) s = .next (reply ⟨0, false⟩ { s with ovr := true }) := by
  rw [perform, hostWrite_cmd, writeCmd, if_pos hb]

/-- Settles O5: an accepted word that does not decode is in flight until the illegal completion. -/
theorem acceptanceLatchesWordAndOperand : Obligations.AcceptanceLatchesWordAndOperand := by
  refine ⟨fun s w hb => perform_write_cmd_idle w hb, fun s t u w e hb hd ht hu => ?_⟩
  obtain rfl := Host.Outcome.next.inj ((perform_write_cmd_idle w hb).symm.trans ht)
  obtain rfl := Host.Outcome.next.inj ((blockTurn_of_illegal (s := reply _ (accept w s)) rfl hd).symm.trans hu)
  rfl

/-! ### What the host writes while a command is in flight -/

/-- DIN and OVR moved: the registers that the host's writes move while BUSY = 1. -/
def State.mapDinOvr (f : Block → Block) (g : Bool → Bool) (s : State) : State :=
  { s with din := f s.din, ovr := g s.ovr }

section

variable (f : Block → Block) (g : Bool → Bool)

/-- The checks of a command read neither DIN nor OVR. -/
theorem commandVerdict_mapDinOvr (i : Instr) (s : State) :
    commandVerdict i (s.mapDinOvr f g) = commandVerdict i s := by
  cases i <;> rfl

theorem effectIvblk_mapDinOvr (s : State) :
    effectIvblk (s.mapDinOvr f g) = (effectIvblk s).mapDinOvr f g := by
  by_cases hs : s.sess = .ivload
  · rw [effectIvblk_continues hs, effectIvblk_continues (s := s.mapDinOvr f g) hs]
    rfl
  · rw [effectIvblk_begins hs, effectIvblk_begins (s := s.mapDinOvr f g) hs]
    rfl

/-- The effect of a command neither reads nor writes DIN and OVR. -/
theorem commandEffect_mapDinOvr (i : Instr) (s : State) :
    commandEffect i (s.mapDinOvr f g) = (commandEffect i s).mapDinOvr f g := by
  cases i with
  | ivblk => exact effectIvblk_mapDinOvr f g s
  | _ => rfl

variable {s t : State}

theorem exec_mapDinOvr {i : Instr} (h : exec i s = .next t) :
    exec i (s.mapDinOvr f g) = .next (t.mapDinOvr f g) := by
  rw [exec_eq_carryOut, commandVerdict_mapDinOvr]
  obtain ⟨e, hv, rfl⟩ | ⟨hv, rfl⟩ | ⟨hv, rfl⟩ | ⟨hv, rfl⟩ := exec_cases h
  · rw [hv]; rfl
  · rw [hv]; rfl
  · rw [hv]; rfl
  · rw [hv, carryOut_perform, commandEffect_mapDinOvr]

/-- The completion of a command in flight commutes with what the host writes meanwhile. -/
theorem blockTurn_mapDinOvr (hb : s.busy = true) (h : perform .blockTurn s = .next t) :
    perform .blockTurn (s.mapDinOvr f g) = .next (t.mapDinOvr f g) := by
  rw [perform_blockTurn_busy hb] at h
  rw [perform_blockTurn_busy (s := s.mapDinOvr f g) hb]
  obtain ⟨i, u, hd, hx, rfl⟩ | ⟨e, hd, rfl⟩ := complete_cases h
  · rw [complete_of_decode (s := s.mapDinOvr f g) hd, exec_mapDinOvr f g hx]
    rfl
  · exact complete_of_illegal (s := s.mapDinOvr f g) hd

end

/-- Settles O6: the completion commutes with OVR set, and the events that clear OVR are those of O7. -/
theorem overrunDropsTheWord : Obligations.OverrunDropsTheWord := by
  refine ⟨fun s w hb => perform_write_cmd_busy w hb,
    fun s t hb h => blockTurn_mapDinOvr id (fun _ => true) hb h, fun e s t h hset hclear => ?_⟩
  obtain ⟨-, hevents⟩ := overrunFlagChangesOnlyAsSaid
  obtain ⟨hcmd, hstatus, -, hother⟩ := hevents e s t h
  rw [hset, hclear] at hcmd hstatus hother
  by_cases hr : e = .reset
  · exact .inl hr
  by_cases hs : ∃ v, e = .write .w32 0x04 v
  · obtain ⟨v, he⟩ := hs
    exact .inr ⟨v, he, by simpa using hstatus v he⟩
  · have hkept : false = true := hother (fun w he => by simpa using hcmd w he) (fun v he => hs ⟨v, he⟩) hr
    cases hkept

/-- A word read after one word was written (20_memory.md R73). -/
theorem wordAt_setWordAt (b : Block) (v : Word) {j k : Nat} (hj : j ≤ 3) (hk : k ≤ 3) :
    wordAt (setWordAt b k v) j = if j = k then v else wordAt b j := by
  refine BitVec.eq_of_getLsbD_eq fun p hp => ?_
  rw [wordAt_getLsbD _ _ hp, setWordAt_getLsbD _ hk _ (by omega)]
  split
  · next hin =>
    obtain rfl : j = k := by omega
    rw [if_pos rfl, Nat.add_sub_cancel_left]
  · next hout =>
    have hne : j ≠ k := by rintro rfl; omega
    rw [if_neg hne, wordAt_getLsbD _ _ hp]

theorem perform_write_din {k : Nat} (hk : k ≤ 3) (v : Word) (s : State) :
    perform (.write .w32 (BitVec.ofNat 8 (0x10 + 4 * k)) v) s =
      .next (reply ⟨0, false⟩ { s with din := setWordAt s.din k v }) := by
  interval_cases k <;> rfl

/-- Settles O13: a DIN write replaces one word, a completion commutes with it, and acceptance copies DIN. -/
theorem dinWriteAffectsOnlyTheNextCommand : Obligations.DinWriteAffectsOnlyTheNextCommand := by
  refine ⟨fun s k v hk => ⟨_, perform_write_din hk v s, fun j hj => wordAt_setWordAt s.din v hj hk, rfl⟩,
    fun s t d hb h => blockTurn_mapDinOvr (fun _ => d) id hb h, fun s t w hb h => ?_⟩
  obtain rfl := Host.Outcome.next.inj ((perform_write_cmd_idle w hb).symm.trans h)
  rfl

/-! ### The latency -/

/-- The result class that a code in ERR shows (70_reset_and_hazards.md R354). -/
def ErrCode.resultClass : ErrCode → ResultClass
  | .illegal => .decodeRefusal
  | .state | .param | .limit => .checkRefusal
  | .ok | .authfail => .performed

section

variable {s : State}

theorem pendingClass_of_decode {i : Instr} (hd : decode s.debugMulh s.pend = .ok i) :
    pendingClass s = (commandVerdict i s).resultClass := by
  rw [pendingClass, hd]

theorem pendingClass_of_illegal {e : Illegal} (hd : decode s.debugMulh s.pend = .error e) :
    pendingClass s = .decodeRefusal := by
  rw [pendingClass, hd]

theorem exec_err_resultClass {i : Instr} {t : State} (h : exec i s = .next t) :
    t.err.resultClass = (commandVerdict i s).resultClass := by
  obtain ⟨e, hv, rfl⟩ | ⟨hv, rfl⟩ | ⟨hv, rfl⟩ | ⟨hv, rfl⟩ := exec_cases h
  · rw [hv, setErr_err]
    obtain rfl | rfl | rfl := refuse_code hv <;> rfl
  · rw [hv]; rfl
  · rw [hv]; rfl
  · rw [hv]
    obtain herr | ⟨herr, -⟩ := commandEffect_err hv <;> rw [herr] <;> rfl

/-- The completion shows the result class of the command in flight. -/
theorem blockTurn_err_resultClass {t : State} (hb : s.busy = true) (h : perform .blockTurn s = .next t) :
    t.err.resultClass = pendingClass s := by
  obtain ⟨i, u, hd, hx, rfl⟩ | ⟨e, hd, rfl⟩ := complete_cases ((perform_blockTurn_busy hb).symm.trans h)
  · rw [pendingClass_of_decode hd, retire_err, exec_err_resultClass hx]
  · rw [pendingClass_of_illegal hd]; rfl

/-- The fields of a word that decodes are the command's opcode and LEN. -/
theorem fields_of_decode {d : Bool} {w : Word} {i : Instr} (hd : decode d w = .ok i) :
    fieldOp w = i.opcode ∧ fieldLen w = i.len := by
  obtain ⟨hrow, -⟩ := decode_eq_ok_iff.mp hd
  obtain ⟨-, -, hop, hlen⟩ := row_iff_fields.mp hrow
  exact ⟨hop, hlen⟩

/-- A CHECK whose checks pass is performed, whatever the tags (43_tag.md R253). -/
theorem pendingLatency_check {n : Nat} (hd : decode s.debugMulh s.pend = .ok (.check n)) (hs : s.sess = .started)
    (h4 : 4 ≤ n) (h16 : n ≤ 16) : pendingLatency s = Config.latency 0xB n .performed := by
  have hv : commandVerdict (.check n) s = .perform := verdictTag_perform.mpr ⟨hs, h4, h16⟩
  obtain ⟨hop, hlen⟩ := fields_of_decode hd
  rw [pendingLatency, hop, hlen, pendingClass_of_decode hd, hv]
  rfl

end

/-- The result class is a function of PEND and the public registers. -/
theorem pendingClass_eq_of_samePublic {s₁ s₂ : State} (h : SamePublic s₁ s₂) (hp : s₁.pend = s₂.pend) :
    pendingClass s₁ = pendingClass s₂ := by
  have hdec : decode s₂.debugMulh s₂.pend = decode s₁.debugMulh s₁.pend := by rw [h.debugMulh, hp]
  cases hd : decode s₁.debugMulh s₁.pend with
  | error e => rw [pendingClass_of_illegal hd, pendingClass_of_illegal (hdec.trans hd)]
  | ok i =>
    rw [pendingClass_of_decode hd, pendingClass_of_decode (hdec.trans hd), commandVerdict_eq_of_samePublic h i]

/-- Settles O48: ERR shows the result class, which PEND and the public registers give. -/
theorem latencyRevealsNoSecret : Obligations.LatencyRevealsNoSecret := by
  refine ⟨fun s t hb h => ?_, fun s n hd hs h4 h16 => pendingLatency_check hd hs h4 h16,
    fun s => ⟨Nat.le_add_left 1 _, rfl⟩, fun s₁ s₂ hpub hp => ?_⟩
  · rw [← blockTurn_err_resultClass hb h]
    cases t.err <;> decide
  · rw [pendingLatency, pendingLatency, hp, pendingClass_eq_of_samePublic hpub hp]

end Sys2Proof.Machine
end
